-- ==== Sys2Proof/Word.lean ====
section
/-! DEFINITION. The plain value types of the Bevjard BV16: bytes, 32-bit clock values, the numbers of
groups, aspects (cores), plans, substitution entries and qualifiers, and the fixed banks and sets that are
indexed by them. -/

namespace Sys2Proof

/-- One byte of a frame or of the configuration image (R172). -/
abbrev Byte := BitVec 8

/-- A 32-bit count that wraps to 0: decisecond clock values (R3), times in ms and seconds since reset. -/
abbrev Clock := BitVec 32

/-- A signal group. Group number n of the manual (1 to 16) is the index n − 1. -/
abbrev GroupId := Fin 16

/-- An aspect, or the street core that feeds it. Core number n of R128 (1 to 64) is the index n − 1. -/
abbrev CoreId := Fin 64

/-- A timing plan. Plan number n (1 to 8) is the index n − 1. -/
abbrev PlanId := Fin 8

/-- A substitution entry. Entry number n (1 or 2) is the index n − 1. -/
abbrev EntryId := Fin 2

/-- A qualifier. Qualifier number n (1 to 4) is the index n − 1. -/
abbrev QualId := Fin 4

/-- A set of groups: for each group, whether it is a member. -/
abbrev GroupSet := Vector Bool 16

/-- A set of cores: for each core, whether it is a member. -/
abbrev CoreSet := Vector Bool 64

/-- A set of stage indexes 1 to 12: position n − 1 stands for stage index n. -/
abbrev StageSet := Vector Bool 12

/-- The empty group set. -/
def noGroups : GroupSet := Vector.replicate 16 false

/-- The empty core set. -/
def noCores : CoreSet := Vector.replicate 64 false

/-- The empty set of stage indexes. -/
def noStages : StageSet := Vector.replicate 12 false

/-- The set of the groups with these numbers (1 to 16). -/
def groupsOf (numbers : List Nat) : GroupSet := Vector.ofFn fun g => decide (g.val + 1 ∈ numbers)

/-- The set of the cores with these numbers (1 to 64). -/
def coresOf (numbers : List Nat) : CoreSet := Vector.ofFn fun c => decide (c.val + 1 ∈ numbers)

/-- A bank with the cell at one index replaced. -/
def put {α : Type} {n : Nat} (v : Vector α n) (i : Fin n) (x : α) : Vector α n := v.set i.val x i.isLt

/-- A bank with a function applied to the cell at one index. -/
def change {α : Type} {n : Nat} (v : Vector α n) (i : Fin n) (f : α → α) : Vector α n := put v i (f v[i])

/-- A bank with a function applied to every cell. -/
def mapBank {α β : Type} {n : Nat} (f : α → β) (v : Vector α n) : Vector β n := Vector.ofFn fun i => f v[i]

/-- Time elapsed between two readings of a 32-bit count, taken modulo 2^32 (R3). -/
def elapsed (now past : Clock) : Nat := (now - past).toNat

/-- A count that stops at its stated maximum. -/
def saturate (limit n : Nat) : Nat := min limit n

end Sys2Proof
end

