-- ==== Sys2Proof/Vocabulary.lean ====
section
/-! DEFINITION. The names the manual gives: ports, modes, states, classes, kinds, statuses and the small records
that requests and events carry. Each enumerated type lists its values in the order in which the rule that
defines it lists them, which is the order R172 numbers them in. -/

namespace Sys2Proof

/-- The three serial ports (R166). -/
inductive Port where
  | plan
  | monitor
  | maintenance
  deriving DecidableEq, Repr, Inhabited

/-- One value for each of the three ports. -/
structure PerPort (α : Type) where
  plan : α
  monitor : α
  maintenance : α
  deriving DecidableEq, Repr

/-- The value held for one port. -/
def PerPort.at {α : Type} (v : PerPort α) : Port → α
  | .plan => v.plan
  | .monitor => v.monitor
  | .maintenance => v.maintenance

/-- The values with that of one port replaced. -/
def PerPort.put {α : Type} (v : PerPort α) (p : Port) (x : α) : PerPort α :=
  match p with
  | .plan => { v with plan := x }
  | .monitor => { v with monitor := x }
  | .maintenance => { v with maintenance := x }

/-- Group types (R1, R2). -/
inductive GroupType where
  | vehicle
  | pedestrian
  | tram
  | unused
  deriving DecidableEq, Repr, Inhabited

/-- Group states (R2). -/
inductive GroupState where
  | dark
  | flashing
  | red
  | redAmber
  | green
  | amber
  | clearance
  deriving DecidableEq, Repr, Inhabited

/-- The four aspects of a group, which are also the four sense rows (R1, R95). -/
inductive Letter where
  | R
  | A
  | G
  | X
  deriving DecidableEq, Repr, Inhabited

/-- Aspect commands (R5). -/
inductive AspectCommand where
  | off
  | steady
  | flashing
  deriving DecidableEq, Repr, Inhabited

/-- Junction modes (R20). -/
inductive Mode where
  | dark
  | start
  | run
  | held
  | flash
  | supplyOff
  deriving DecidableEq, Repr, Inhabited

/-- Start phases (R20). -/
inductive StartPhase where
  | none
  | flashPhase
  | allRedPhase
  deriving DecidableEq, Repr, Inhabited

/-- Hold causes (R30). -/
inductive HoldCause where
  | none
  | maintRequest
  | planRequest
  | panel
  | stepCount
  | qualifier
  deriving DecidableEq, Repr, Inhabited

/-- The port whose RUN_STEPS set a step budget (R30, R36). -/
inductive BudgetPort where
  | none
  | plan
  | maintenance
  deriving DecidableEq, Repr, Inhabited

/-- The two door-panel inputs (R38). -/
inductive PanelSwitch where
  | hand
  | step
  deriving DecidableEq, Repr, Inhabited

/-- Whether a plan may be selected and run (R61). -/
inductive Validity where
  | valid
  | invalid
  deriving DecidableEq, Repr, Inhabited

/-- States of the stage sequence (R67). -/
inductive SeqState where
  | stopped
  | awaiting
  | timing
  deriving DecidableEq, Repr, Inhabited

/-- States of the correction record (R87). -/
inductive CorrectionState where
  | none
  | stored
  | applying
  deriving DecidableEq, Repr, Inhabited

/-- Directions of a sync correction (R87). -/
inductive Direction where
  | shorten
  | lengthen
  deriving DecidableEq, Repr, Inhabited

/-- States of the sync input filter (R83). -/
inductive FilterState where
  | low
  | rising
  | high
  deriving DecidableEq, Repr, Inhabited

/-- States of the loss-of-sync watch (R84, R92). -/
inductive WatchState where
  | inactive
  | running
  | expired
  deriving DecidableEq, Repr, Inhabited

/-- Scan states (R96). -/
inductive ScanState where
  | suspended
  | scanning
  deriving DecidableEq, Repr, Inhabited

/-- Scan modes (R96, R101). -/
inductive ScanMode where
  | threeRow
  | fourRow
  deriving DecidableEq, Repr, Inhabited

/-- The output level latched at the start of an aspect's slot (R96). -/
inductive Latch where
  | lit
  | dark
  | none
  deriving DecidableEq, Repr, Inhabited

/-- Reading classes, in the order in which R105 tests them. -/
inductive ReadingClass where
  | unscanned
  | senseFault
  | stale
  | saturated
  | lit
  | darkOk
  | unexpected
  deriving DecidableEq, Repr, Inhabited

/-- Lamp types (R111). -/
inductive LampType where
  | filament
  | led
  deriving DecidableEq, Repr, Inhabited

/-- Progress of a LEARN (R111, R120). -/
inductive LearnState where
  | none
  | darkPending
  | litPending
  deriving DecidableEq, Repr, Inhabited

/-- States of the Cable Test Unit (R129, R130). -/
inductive UnitState where
  | disabled
  | idle
  | waiting
  | testing
  | stopping
  deriving DecidableEq, Repr, Inhabited

/-- Where a test queue entry came from (R134). -/
inductive QueueOrigin where
  | request
  | lampOut
  | redLost
  deriving DecidableEq, Repr, Inhabited

/-- Where a test in flight came from (R138). -/
inductive TestSource where
  | queue
  | cyclic
  deriving DecidableEq, Repr, Inhabited

/-- The polarity phase of a test in flight (R138). -/
inductive TestPhase where
  | positive
  | negative
  deriving DecidableEq, Repr, Inhabited

/-- Classes of a cable record (R143). -/
inductive CableClass where
  | notTested
  | valid
  | asymmetric
  | saturated
  | interrupted
  | noWindow
  deriving DecidableEq, Repr, Inhabited

/-- What a qualifier watches (R146). -/
inductive QualifierSource where
  | cableLeakage
  | cableOffset
  | lampNet
  | lampProven
  deriving DecidableEq, Repr, Inhabited

/-- Conditions of a comparator (R146, R148). -/
inductive Condition where
  | above
  | below
  | equal
  | notEqual
  deriving DecidableEq, Repr, Inhabited

/-- How the two comparisons make an event (R146, R149). -/
inductive CombineRule where
  | aAndB
  | aOrB
  | bAfterA
  | aAfterB
  deriving DecidableEq, Repr, Inhabited

/-- What firing does (R146, R151). -/
inductive QualifierAction where
  | report
  | hold
  | flash
  deriving DecidableEq, Repr, Inhabited

/-- States of a qualifier (R146). -/
inductive QualifierState where
  | idle
  | armed
  | fired
  deriving DecidableEq, Repr, Inhabited

/-- The 15 fault kinds, in the order of the table of kinds of the fault table's chapter. -/
inductive FaultKind where
  | lampPartial
  | lampOut
  | redLost
  | lampUncertain
  | lampOverload
  | unexpectedCurrent
  | conflictObserved
  | senseFault
  | cableAsymmetric
  | cableNoWindow
  | qualifierFired
  | syncLost
  | contactor
  | storeCheck
  | forced
  deriving DecidableEq, Repr, Inhabited

/-- Where a fault was found (R156). -/
inductive Subject where
  | none
  | group (g : GroupId)
  | aspect (c : CoreId)
  | core (c : CoreId)
  | qualifier (q : QualId)
  deriving DecidableEq, Repr, Inhabited

/-- Whether the raising block holds a fault present (R156). -/
inductive FaultState where
  | active
  | inactive
  deriving DecidableEq, Repr, Inhabited

/-- Kinds of a stage history entry (R164). -/
inductive EntryKind where
  | change
  | skip
  | plan
  | hold
  | mode
  deriving DecidableEq, Repr, Inhabited

/-- Store states (R174). -/
inductive StoreState where
  | loading
  | idle
  | saving
  deriving DecidableEq, Repr, Inhabited

/-- Outcome of the last load (R174). -/
inductive LoadOutcome where
  | good
  | bad
  deriving DecidableEq, Repr, Inhabited

/-- Outcome of the last save (R174). -/
inductive SaveOutcome where
  | none
  | good
  | bad
  deriving DecidableEq, Repr, Inhabited

/-- The state marker of an image header (R173). -/
inductive Marker where
  | complete
  | incomplete
  deriving DecidableEq, Repr, Inhabited

/-- Port states (R166). -/
inductive PortState where
  | idle
  | receiving
  | discarding
  | pending
  | responding
  deriving DecidableEq, Repr, Inhabited

/-- Status codes, in the order of their codes 0x00 to 0x0F (R172). -/
inductive Status where
  | ok
  | badCheck
  | badLength
  | badRequest
  | notPermitted
  | wrongMode
  | range
  | busy
  | armed
  | conflict
  | inUse
  | invalidPlan
  | notOwner
  | blocked
  | queueFull
  | empty
  deriving DecidableEq, Repr, Inhabited

/-- The blocks the engine tells of a new junction mode (R20). -/
inductive NoticeBlock where
  | sequencer
  | lampUnit
  | cableUnit
  deriving DecidableEq, Repr, Inhabited

/-- The tag the Plan Sequencer attaches to a stage request (R49, R70). -/
structure Tag where
  plan : PlanId
  stage : Nat
  substituted : Bool
  cycleAt : Nat
  deriving DecidableEq, Repr

/-- A stage request: the target group set and its tag (R50, R55). -/
structure StageRequest where
  set : GroupSet
  tag : Tag
  deriving DecidableEq, Repr

/-- One reading of a sense input over one slot (R95). -/
structure Reading where
  raw : Nat
  senseOpen : Bool
  deriving DecidableEq, Repr, Inhabited

/-- What one frame result carries for one aspect to the Qualifier Unit (R113, R147). -/
structure AspectResult where
  cls : ReadingClass
  raw : Nat
  net : Nat
  proven : Nat
  deriving DecidableEq, Repr, Inhabited

/-- The arguments WRITE_PLAN carries for one stage, as the frame holds them (flags as their byte values). -/
structure StageArgs where
  set : GroupSet
  endPoint : Nat
  stageMin : Nat
  stageMax : Nat
  demandDependent : Nat
  elastic : Nat
  deriving DecidableEq, Repr

/-- The part number and contents of a WRITE_PLAN (R63). -/
inductive PlanPart where
  /-- Part 1: the plan number, the plan's own fields and stages 1 to min(n, 6). -/
  | one (plan cycle offset sync dim count : Nat) (stages : List StageArgs)
  /-- Part 2: the plan number and stages 7 to n. -/
  | two (plan : Nat) (stages : List StageArgs)
  /-- Any other part number, which R63 refuses. -/
  | other (part : Nat)
  deriving DecidableEq, Repr

/-- A comparator as WRITE_QUALIFIER carries it (the condition as its byte value). -/
structure ComparatorArgs where
  limit : Int
  condition : Nat
  deriving DecidableEq, Repr

/-- The seven configuration fields of WRITE_QUALIFIER as the frame holds them (R146, R154). -/
structure QualifierArgs where
  source : Nat
  subject : Nat
  a : ComparatorArgs
  b : ComparatorArgs
  combine : Nat
  count : Nat
  action : Nat
  deriving DecidableEq, Repr

/-- What a block sends the Stage History for one entry (R164). -/
inductive HistoryItem where
  /-- An interstage completion, from the completed interstage's tag. -/
  | change (tag : Tag) (duration : Nat) (withheld : GroupSet)
  /-- A stage passed over. -/
  | skip (plan : PlanId) (fromStage toStage cycleAt : Nat)
  /-- A plan change at a wrap. -/
  | plan (plan : PlanId) (cycleAt : Nat)
  /-- An entry to HELD, or a cause change to PANEL in HELD. -/
  | hold (plan : PlanId) (stage cycleAt : Nat) (cause : HoldCause)
  /-- A change of mode other than to HELD. -/
  | mode (plan : PlanId) (cycleAt : Nat) (mode : Mode)
  deriving DecidableEq, Repr

end Sys2Proof
end

