-- ==== Sys2Proof/Syntax.lean ====
section
/-! DEFINITION. The commands of the BV16: one constructor for each row of spec/opcode_table.json. Requests carry
the arguments of their defining rule as the numbers a frame holds (R172); a request that more than one port may
make carries the issuing port. Events carry what their block is told or reads at that moment. -/

namespace Sys2Proof

inductive Instr where
  -- Signal groups and aspects
  | writeGroup (group type minGreen redAmber amber clearance minRed : Nat)
  | readGroup (p : Port) (group : Nat)
  -- Junction modes and hand control
  | restart
  | writeStartTimes (startFlash allRed : Nat)
  | forceFlash
  | forceOff
  | hold (p : Port)
  | resume (p : Port)
  | step (p : Port) (index : Option Nat)
  | runSteps (p : Port) (n : Nat)
  | readMode (p : Port)
  -- Conflicts, intergreens and the interstage
  | writeConflicts (matrix : Vector GroupSet 16)
  | writeIntergreens (part : Nat) (rows : Vector (Vector Byte 16) 4)
  | readConflicts (p : Port)
  | readIntergreens (p : Port) (part : Nat)
  | readInterstage (p : Port)
  -- Timing plans and the stage sequence
  | writePlan (part : PlanPart)
  | readPlan (p : Port) (plan part : Nat)
  | selectPlan (plan : Nat)
  | demand (stage : Nat)
  | extend (x : Nat)
  | writeSubst (entry plan stage : Nat) (set : GroupSet) (stageMin stageMax demandFlag : Nat)
  | enableSubst (entry : Nat)
  | disableSubst (entry : Nat)
  | readSubst (p : Port)
  | readSequence (p : Port)
  -- Cycle synchronisation
  | readSync (p : Port)
  -- Lamp scanning and readings
  | writeScan (scanMode filter threshold : Nat)
  | readSnapshot (p : Port)
  | readScan (p : Port) (row : Nat)
  -- Lamp counts, references and red loss
  | writeLamp (aspect fitted type bright dim leak tolerance frozen : Nat)
  | learn (aspect : Nat)
  | readLamp (p : Port) (aspect : Nat)
  -- Cable testing
  | testEnable
  | testDisable
  | testSet (cores : CoreSet)
  | testInterval (seconds : Nat)
  | testStartCyclic
  | testStop
  | testCore (core : Nat)
  | clearCable (core : Nat)
  | readCable (p : Port) (core : Nat)
  | readTestUnit (p : Port)
  -- Alarm qualifiers
  | writeQualifier (qualifier : Nat) (args : QualifierArgs)
  | arm (qualifier : Nat)
  | disarm (qualifier : Nat)
  | readQualifier (p : Port) (qualifier : Nat)
  -- Fault table and stage history
  | ackFault (p : Port) (kind subject : Nat)
  | clearOverflow
  | readFaults (p : Port) (position : Nat)
  | readHistory (p : Port)
  | seekHistory (p : Port)
  -- The configuration store
  | saveStore
  | readStore (p : Port)
  -- Port events
  | requestFrameComplete (p : Port) (check : Byte)
  | frameLengthOver96 (p : Port) (length : Byte)
  | selectRelease (p : Port)
  | maintenanceGapExpiry
  | maintenanceResponseSent
  -- Events of the Signal Group Engine and the Plan Sequencer
  | decisecondStep
  | timedStateExit (g : GroupId)
  | flashPhaseEnd
  | allRedPhaseEnd
  | sequencerTick
  | correctionSpent
  | syncWatchExpiry
  | stageRequest (request : StageRequest)
  | stepCountHold (budgetPort : BudgetPort)
  | redLossChange (g : GroupId)
  | conflictObservedDeclaration (g : GroupId)
  | qualifierFlash
  | qualifierHold
  -- Panel, contactor and sync inputs
  | panelRawChange (input : PanelSwitch) (on : Bool)
  | handOn
  | handOff
  | stepPress
  | contactorFeedbackChange (closed : Bool)
  | contactorTimerExpiry
  | syncInputRise
  | syncInputFall
  | countedPulse
  -- Events of the Lamp Proving Unit
  | zeroCross (readings : Vector Reading 16)
  | scanSuspend
  | aspectLevelChange (c : CoreId) (lit : Bool)
  | dimChange (on : Bool)
  | junctionModeNotice (block : NoticeBlock) (mode : Mode)
  -- Events of the Qualifier Unit and the Cable Test Unit
  | lampFrameResult (results : Vector AspectResult 64)
  | cableResult (c : CoreId) (cls : CableClass) (leakage offset : Int)
  | lampOutDeclaration (c : CoreId)
  | redLostDeclaration (c : CoreId)
  | aspectCommandChange (c : CoreId) (command : AspectCommand)
  | energiseNotice (c : CoreId)
  | intervalExpiry
  | positivePhaseEnd (current : Int)
  | testCompletion (current : Int)
  | waitLimitExpiry (c : CoreId)
  -- Events of the Fault Table, the Stage History and the Store Controller
  | faultRaise (kind : FaultKind) (subject : Subject)
  | faultClear (kind : FaultKind) (subject : Subject)
  | historyEntry (item : HistoryItem)
  | powerOnReset
  | storeLoadEnd (memory : List Byte)
  | storeLoadTimeout
  | storeSaveEnd (memory : List Byte)
  | storeSaveTimeout
  | stepTurningOff
  | incomingByte (p : Port) (b : Byte)
  | selectionStart (p : Port)
  deriving DecidableEq, Repr

end Sys2Proof
end

