-- ==== Sys2Proof/Config.lean ====
section
/-! DEFINITION. What the manual leaves open and the model leaves free: opaque constants with no body, so that
no proof can see a value. -/

namespace Sys2Proof

/-- Places where R172's conventions give no encoding for a field that holds nothing. -/
inductive AbsentField where
  /-- READ_SEQUENCE's pending plan when there is none (R82). -/
  | pendingPlan
  /-- READ_SEQUENCE's tag of a latest request that has no tag (R67, R82). -/
  | latestTag
  /-- READ_INTERSTAGE's request tag when no tag is held (R49, R54). -/
  | interstageTag
  /-- READ_SYNC's last pulse time when there has been none (R84, R94). -/
  | lastPulse
  /-- READ_SYNC's plan of the last measured pulse when there has been none (R84, R94). -/
  | lastPlan
  deriving DecidableEq, Repr

/-- DESIGN CHOICE (log 12): the byte at position k of a response field that holds no value. The manual gives no
encoding for it, so it is a free value. -/
opaque Config.absentByte : AbsentField → Nat → Byte

/-- DESIGN CHOICE (log 13): the number from which a field of a loaded image is formed when its own bytes lie outside the
field's range, by the field's place in the image and those bytes. R174 gives such an image no BAD outcome and the field no
value, so it is a free value. -/
opaque Config.imageField : Nat → List Byte → Nat

/-- DESIGN CHOICE (log 36): the current in µA that the cable-test front end shows when a phase timer runs out in an idle
step, by the count of expiries taken before it. It comes from outside the part (R138), so it is a free value. -/
opaque Config.testCurrent : Nat → Int

end Sys2Proof
end

