-- ==== Sys2Proof/Machine/State.lean ====
section
/-! DEFINITION. The state of the BV16 as plain data, block by block, and the state right after reset. Each field
cites the rule that names it; INVENTORY.md lists them all with their reset values. Functions that move the state
stand in the other files of Machine/. -/

namespace Sys2Proof.Machine

/-- No command of the BV16 stops the part: every request is answered with a status and every event is taken. The
type has no constructor. -/
inductive Fault where
  deriving DecidableEq, Repr

/-- Why a command is refused. -/
inductive Refusal where
  /-- Raised by an arm of `exec` for a command that has no meaning yet: safe, since nothing is claimed of it. -/
  | notModelled (mnemonic : String)
  deriving DecidableEq, Repr

/-! ## Signal Group Engine -/

/-- One group record (R2). `cutShort`: inhibition has ended the group's green and it has not started since, so that its
minimum red counts from that ending (R60). -/
structure Group where
  type : GroupType
  state : GroupState
  timeInState : Nat
  lastGreenEnd : Clock
  greenStart : Clock
  minGreen : Nat
  redAmber : Nat
  amber : Nat
  clearance : Nat
  minRed : Nat
  redLost : Bool
  inhibited : Bool
  withheld : Bool
  cutShort : Bool
  deriving DecidableEq, Repr

/-- The command and the output level the engine presents for one aspect (R5). -/
structure AspectOutput where
  command : AspectCommand
  lit : Bool
  deriving DecidableEq, Repr

/-- The hold record (R30). -/
structure HoldRecord where
  cause : HoldCause
  entered : Clock
  pending : Bool
  pendingCause : HoldCause
  budgetPort : BudgetPort
  deriving DecidableEq, Repr

/-- The interstage record and the current target (R49). -/
structure Interstage where
  inFlight : Bool
  target : GroupSet
  leaving : GroupSet
  entering : GroupSet
  begunAt : Clock
  tag : Option Tag
  deriving DecidableEq, Repr

/-- Whether each start condition of R52 held for a group at the last step (R54). -/
structure StartTest where
  notInhibited : Bool
  minRedRun : Bool
  intergreensRun : Bool
  deriving DecidableEq, Repr

/-- A door-panel input: its raw level, its debounced level and its 50 ms timer when that runs (R38). -/
structure PanelInput where
  raw : Bool
  debounced : Bool
  timer : Option Clock
  deriving DecidableEq, Repr

/-- What the Signal Group Engine owns. -/
structure Engine where
  clock : Clock
  groups : Vector Group 16
  mode : Mode
  startPhase : StartPhase
  phaseTime : Nat
  startFlash : Nat
  allRed : Nat
  hold : HoldRecord
  interstage : Interstage
  slot : Option StageRequest
  startTests : Vector StartTest 16
  aspects : Vector AspectOutput 64
  contactorClosed : Bool
  feedbackClosed : Bool
  contactorTimer : Option Clock
  dimOn : Bool
  hand : PanelInput
  stepButton : PanelInput
  deriving DecidableEq, Repr

/-! ## Conflict Table -/

/-- A row of intergreens: sixteen entries of 0 to 255 ds (R41). -/
abbrev IgRow := Vector Byte 16

/-- The conflict matrix, the intergreen table and the intergreen staging record (R40, R41, R44). The parts received
are always 1 up to some number, which `stagedParts` holds. -/
structure ConflictTable where
  matrix : Vector GroupSet 16
  intergreens : Vector IgRow 16
  stagedRows : List IgRow
  stagedParts : Nat
  deriving DecidableEq, Repr

/-! ## Plan Sequencer -/

/-- One stage record of a plan (R61). -/
structure Stage where
  set : GroupSet
  endPoint : Nat
  stageMin : Nat
  stageMax : Nat
  demandDependent : Bool
  elastic : Bool
  deriving DecidableEq, Repr

/-- One plan record (R61). Stages past the stage count are kept as zeros, as the image holds them (R172). -/
structure Plan where
  cycle : Nat
  offset : Nat
  sync : Bool
  dim : Bool
  count : Nat
  stages : Vector Stage 12
  validity : Validity
  deriving DecidableEq, Repr

/-- The plan staging record when it is not empty (R63). -/
structure PlanStaging where
  plan : PlanId
  cycle : Nat
  offset : Nat
  sync : Nat
  dim : Nat
  count : Nat
  stages : List StageArgs
  deriving DecidableEq, Repr

/-- The running stage (R70). -/
structure RunningStage where
  plan : PlanId
  index : Nat
  set : GroupSet
  endPoint : Nat
  precedingEnd : Nat
  stageMin : Nat
  stageMax : Nat
  demandDependent : Bool
  elastic : Bool
  substituted : Bool
  deriving DecidableEq, Repr

/-- The latest stage request the sequencer issued (R67). -/
structure LatestRequest where
  set : GroupSet
  tag : Option Tag
  deriving DecidableEq, Repr

/-- The correction record (R87). -/
structure Correction where
  state : CorrectionState
  direction : Direction
  amount : Nat
  applied : Nat
  remaining : Nat
  planned : Nat
  deriving DecidableEq, Repr

/-- The sync record (R84), with the level of the sync input and the 20 ms filter timer when it runs (R83). -/
structure SyncRecord where
  input : Bool
  filter : FilterState
  timer : Option Clock
  lastPulse : Option Clock
  lastCycleTimer : Nat
  lastPlan : Option PlanId
  lastError : Int
  inStep : Bool
  watch : WatchState
  watchStart : Clock
  deriving DecidableEq, Repr

/-- One substitution entry (R79). -/
structure SubstEntry where
  plan : PlanId
  stage : Nat
  set : GroupSet
  stageMin : Nat
  stageMax : Nat
  demandFlag : Bool
  enabled : Bool
  deriving DecidableEq, Repr

/-- What the Plan Sequencer owns. -/
structure Sequencer where
  plans : Vector Plan 8
  inForce : PlanId
  pendingPlan : Option PlanId
  staging : Option PlanStaging
  state : SeqState
  cycleTimer : Nat
  stageIndex : Nat
  running : RunningStage
  latest : LatestRequest
  stageTimer : Nat
  extensionEnd : Nat
  deferred : Bool
  demands : StageSet
  budget : Nat
  budgetPort : BudgetPort
  correction : Correction
  sync : SyncRecord
  substs : Vector SubstEntry 2
  deriving DecidableEq, Repr

/-! ## Lamp Proving Unit -/

/-- The scan record's fields for one aspect (R96), with the aspect's reading of the frame in progress and whether
that reading is marked as changed in slot (R98). -/
structure ScanAspect where
  latched : Latch
  moved : Bool
  settle : Nat
  reading : Option Reading
  changed : Bool
  deriving DecidableEq, Repr

/-- One lamp record (R111). -/
structure Lamp where
  fitted : Nat
  type : LampType
  bright : Nat
  dim : Nat
  leak : Nat
  tolerance : Nat
  frozen : Bool
  candidate : Nat
  candidateRun : Nat
  proven : Nat
  doubtfulRun : Nat
  unexpectedRun : Nat
  overloadRun : Nat
  quietRun : Nat
  lastRaw : Nat
  lastSenseOpen : Bool
  lastNet : Nat
  lastClass : ReadingClass
  learn : LearnState
  redLossDeclared : Bool
  deriving DecidableEq, Repr

/-- The snapshot record's fields for one group (R108). -/
structure SnapshotGroup where
  state : GroupState
  proven : Vector Nat 4
  redLost : Bool
  unexpected : Bool
  inhibited : Bool
  withheld : Bool
  deriving DecidableEq, Repr

/-- The snapshot record (R108). -/
structure Snapshot where
  sequence : BitVec 16
  clock : Clock
  mode : Mode
  scanMode : ScanMode
  groups : Vector SnapshotGroup 16
  deriving DecidableEq, Repr

/-- What the Lamp Proving Unit owns. `toldMode` is the junction mode as the engine last told the unit (R20, R126);
`rowSelect` is the one row select that is driven (R95). -/
structure LampUnit where
  scanState : ScanState
  scanMode : ScanMode
  filter : Nat
  threshold : Nat
  slotIndex : Nat
  rowSelect : Letter
  lastZeroCross : Clock
  frameSequence : BitVec 16
  dimChanged : Bool
  toldMode : Mode
  scan : Vector ScanAspect 64
  lamps : Vector Lamp 64
  snapshot : Snapshot
  deriving DecidableEq, Repr

/-! ## Cable Test Unit -/

/-- One entry of the test queue (R134). -/
structure QueueEntry where
  core : CoreId
  origin : QueueOrigin
  waitStart : Clock
  seenEligible : Bool
  underTest : Bool
  deriving DecidableEq, Repr

/-- The test in flight (R138), with the time at which its phase timer started. The core, the phase and their
absence are what the multiplexer selects and the test polarity line show. -/
structure Flight where
  core : CoreId
  source : TestSource
  phase : TestPhase
  start : Clock
  phaseStart : Clock
  positive : Option Int
  deriving DecidableEq, Repr

/-- One cable record (R143). -/
structure CableRecord where
  cls : CableClass
  positive : Int
  negative : Int
  leakage : Int
  offset : Int
  worst : Int
  done : Nat
  interrupted : Nat
  lastTest : Clock
  deriving DecidableEq, Repr

/-- What the Cable Test Unit owns (R129, R143). `intervalTimer` says whether the interval timer runs. -/
structure CableUnit where
  unitState : UnitState
  enabled : Bool
  cyclicRunning : Bool
  stopWaiting : Bool
  testSet : CoreSet
  interval : Nat
  pointer : Nat
  lastTestEnd : Clock
  intervalTimer : Bool
  intervalPassed : Bool
  queue : List QueueEntry
  flight : Option Flight
  records : Vector CableRecord 64
  deriving DecidableEq, Repr

/-! ## Qualifier Unit -/

/-- A comparator (R146). -/
structure Comparator where
  limit : Int
  condition : Condition
  deriving DecidableEq, Repr

/-- One qualifier record (R146). -/
structure Qualifier where
  source : QualifierSource
  subject : CoreId
  a : Comparator
  b : Comparator
  combine : CombineRule
  count : Nat
  action : QualifierAction
  remaining : Nat
  aSeen : Bool
  bSeen : Bool
  state : QualifierState
  deriving DecidableEq, Repr

/-! ## Fault Table and Stage History -/

/-- One fault record (R156). -/
structure FaultRecord where
  kind : FaultKind
  subject : Subject
  state : FaultState
  acknowledged : Bool
  firstSeen : Clock
  lastSeen : Clock
  occurrences : Nat
  deriving DecidableEq, Repr

/-- The fault table: its records in order of creation, the overflow count and the FAULT line (R156, R162). -/
structure FaultTable where
  records : List FaultRecord
  overflow : Nat
  line : Bool
  deriving DecidableEq, Repr

/-- The last field of a history entry (R164). -/
inductive EntryDetail where
  | none
  | cause (c : HoldCause)
  | mode (m : Mode)
  deriving DecidableEq, Repr

/-- One entry of the stage history (R164). -/
structure HistoryEntry where
  sequence : BitVec 16
  time : Clock
  kind : EntryKind
  plan : PlanId
  fromStage : Nat
  toStage : Nat
  cycleAt : Nat
  duration : Nat
  withheld : GroupSet
  substituted : Bool
  detail : EntryDetail
  deriving DecidableEq, Repr

/-- The stage history: the ring, oldest entry first, the next sequence number, the last-stage note and the three
cursors (R164, R165). -/
structure History where
  ring : List HistoryEntry
  next : BitVec 16
  lastStage : Nat
  cursors : PerPort (BitVec 16)
  deriving DecidableEq, Repr

/-! ## Port Interface -/

/-- A response frame (R169, R172): its request code, status, overrun flag and payload. -/
structure Response where
  code : Byte
  status : Status
  overrun : Bool
  payload : List Byte
  deriving DecidableEq, Repr

/-- One port record (R166), with what R167 and R170 need beside it: the frame gathered but not kept, the flag that
further bytes are ignored, the select line, how much of the response this selection has shifted out, the byte last
shifted out, and the time of the last byte. -/
structure PortRecord where
  state : PortState
  received : List Byte
  response : Option Response
  overrun : Bool
  shadow : List Byte
  ignoring : Bool
  selected : Bool
  sending : Bool
  shifted : Nat
  dataOut : Byte
  lastByte : Clock
  deriving DecidableEq, Repr

/-! ## Store Controller -/

/-- The configuration fields of a group record (R2, R173). -/
structure GroupConfig where
  type : GroupType
  minGreen : Nat
  redAmber : Nat
  amber : Nat
  clearance : Nat
  minRed : Nat
  deriving DecidableEq, Repr

/-- The configuration fields of a lamp record (R111, R173). -/
structure LampConfig where
  fitted : Nat
  type : LampType
  bright : Nat
  dim : Nat
  leak : Nat
  tolerance : Nat
  frozen : Bool
  deriving DecidableEq, Repr

/-- The configuration fields of a qualifier record (R146, R173). -/
structure QualifierConfig where
  source : QualifierSource
  subject : CoreId
  a : Comparator
  b : Comparator
  combine : CombineRule
  count : Nat
  action : QualifierAction
  deriving DecidableEq, Repr

/-- Every stored field: sections 2 to 11 of the image (R173). -/
structure Image where
  scanMode : ScanMode
  filter : Nat
  threshold : Nat
  matrix : Vector GroupSet 16
  intergreens : Vector IgRow 16
  groups : Vector GroupConfig 16
  lamps : Vector LampConfig 64
  plans : Vector Plan 8
  substs : Vector SubstEntry 2
  qualifiers : Vector QualifierConfig 4
  cableEnabled : Bool
  cyclicRunning : Bool
  testSet : CoreSet
  interval : Nat
  startFlash : Nat
  allRed : Nat
  deriving DecidableEq, Repr

/-- One write to the external memory over the store port: the bytes and the place of the first (R175). -/
structure StoreWrite where
  place : Nat
  bytes : List Byte
  deriving DecidableEq, Repr

/-- The store record (R174), the copy a save is writing (R175), the crystal time the load or the save has taken, the
writes that the save has still to make, and the external memory's bytes as the store port last read or wrote them (log
23). -/
structure Store where
  state : StoreState
  lastLoad : LoadOutcome
  lastSave : SaveOutcome
  lastSaveTime : Clock
  copy : Option Image
  timer : Nat
  toWrite : List StoreWrite
  memory : List Byte
  deriving DecidableEq, Repr

end Sys2Proof.Machine

namespace Sys2Proof.Machine

/-! ## The whole part -/

/-- The BV16: the queue of waiting commands, the messages blocks have sent one another that are not yet taken
(oldest first), the time since the end of the load in ms, the count of the expiries that idle steps have taken, by which
free values are drawn (log 36), and the ten blocks. -/
structure State where
  pending : List Instr
  outbox : List Instr
  uptimeMs : Nat
  expiries : Nat
  engine : Engine
  conflicts : ConflictTable
  seq : Sequencer
  lamps : LampUnit
  cable : CableUnit
  quals : Vector Qualifier 4
  faults : FaultTable
  history : History
  ports : PerPort PortRecord
  store : Store
  deriving DecidableEq, Repr

/-- The image a failed check stands for: each stored field at the default its own rule gives (R174; R2, R20, R40,
R41, R61, R79, R96, R111, R129, R146). -/
def Image.default : Image where
  scanMode := .fourRow
  filter := 3
  threshold := 40
  matrix := Vector.ofFn fun i => Vector.ofFn fun j => decide (i ≠ j)
  intergreens := Vector.replicate 16 (Vector.replicate 16 255#8)
  groups := Vector.replicate 16
    { type := .unused, minGreen := 0, redAmber := 0, amber := 0, clearance := 0, minRed := 0 }
  lamps := Vector.replicate 64
    { fitted := 0, type := .filament, bright := 1600, dim := 960, leak := 0, tolerance := 4, frozen := false }
  plans := Vector.replicate 8
    { cycle := 0, offset := 0, sync := false, dim := false, count := 0,
      stages := Vector.replicate 12
        { set := noGroups, endPoint := 0, stageMin := 0, stageMax := 0, demandDependent := false, elastic := false },
      validity := .invalid }
  substs := Vector.ofFn fun e =>
    { plan := 0, stage := e.val + 1, set := noGroups, stageMin := 0, stageMax := 0, demandFlag := false,
      enabled := false }
  qualifiers := Vector.replicate 4
    { source := .cableLeakage, subject := 0, a := { limit := 0, condition := .above },
      b := { limit := 0, condition := .above }, combine := .aOrB, count := 1, action := .report }
  cableEnabled := false
  cyclicRunning := false
  testSet := noCores
  interval := 5
  startFlash := 50
  allRed := 60

/-- A hold record that is empty (R30). -/
def HoldRecord.empty : HoldRecord where
  cause := .none
  entered := 0#32
  pending := false
  pendingCause := .none
  budgetPort := .none

/-- A panel input with its raw level off and nothing debounced (R38). -/
def PanelInput.reset : PanelInput where
  raw := false
  debounced := false
  timer := none

/-- The engine's running fields after reset over the configuration fields of an image (R2, R3, R5, R17, R18, R19,
R20, R38, R49, R55). -/
def Engine.reset (img : Image) : Engine where
  clock := 0#32
  groups := Vector.ofFn fun g =>
    { type := img.groups[g].type, state := .dark, timeInState := 0, lastGreenEnd := 0#32, greenStart := 0#32,
      minGreen := img.groups[g].minGreen, redAmber := img.groups[g].redAmber, amber := img.groups[g].amber,
      clearance := img.groups[g].clearance, minRed := img.groups[g].minRed,
      redLost := false, inhibited := false, withheld := false, cutShort := false }
  mode := .dark
  startPhase := .none
  phaseTime := 0
  startFlash := img.startFlash
  allRed := img.allRed
  hold := HoldRecord.empty
  interstage := { inFlight := false, target := noGroups, leaving := noGroups, entering := noGroups,
                  begunAt := 0#32, tag := none }
  slot := none
  startTests := Vector.replicate 16 { notInhibited := false, minRedRun := false, intergreensRun := false }
  aspects := Vector.replicate 64 { command := .off, lit := false }
  contactorClosed := false
  feedbackClosed := false
  contactorTimer := none
  dimOn := false
  hand := PanelInput.reset
  stepButton := PanelInput.reset

/-- The sequencer's running fields after reset over the plans and entries of an image (R62, R63, R67, R79, R84,
R87). `firstRunning` is the running stage that R67 gives. -/
def Sequencer.reset (img : Image) (inForce : PlanId) (firstRunning : RunningStage) : Sequencer where
  plans := img.plans
  inForce := inForce
  pendingPlan := none
  staging := none
  state := .stopped
  cycleTimer := 0
  stageIndex := 1
  running := firstRunning
  latest := { set := noGroups, tag := none }
  stageTimer := 0
  extensionEnd := 0
  deferred := false
  demands := noStages
  budget := 0
  budgetPort := .none
  correction := { state := .none, direction := .shorten, amount := 0, applied := 0, remaining := 0, planned := 0 }
  sync := { input := false, filter := .low, timer := none, lastPulse := none, lastCycleTimer := 0, lastPlan := none,
            lastError := 0, inStep := false, watch := .inactive, watchStart := 0#32 }
  substs := img.substs

/-- Whether core number c + 1 feeds an X aspect (R128). -/
def isX (c : CoreId) : Bool := c.val % 4 == 3

/-- The Lamp Proving Unit's running fields after reset over an image (R96, R108, R111). That row R is selected before the
first slot is the model's (DESIGN CHOICE, log 35). -/
def LampUnit.reset (img : Image) : LampUnit where
  scanState := .suspended
  scanMode := img.scanMode
  filter := img.filter
  threshold := img.threshold
  slotIndex := 0
  rowSelect := .R
  lastZeroCross := 0#32
  frameSequence := 0#16
  dimChanged := false
  toldMode := .dark
  scan := Vector.replicate 64 { latched := .none, moved := false, settle := 0, reading := none, changed := false }
  lamps := Vector.ofFn fun c =>
    let l := img.lamps[c]
    { fitted := l.fitted, type := l.type, bright := l.bright, dim := l.dim, leak := l.leak, tolerance := l.tolerance,
      frozen := l.frozen, candidate := l.fitted, candidateRun := 0, proven := l.fitted, doubtfulRun := 0,
      unexpectedRun := 0, overloadRun := 0, quietRun := 0, lastRaw := 0, lastSenseOpen := false, lastNet := 0,
      lastClass := if l.fitted = 0 ∨ (img.scanMode = .threeRow ∧ isX c) then .unscanned else .stale,
      learn := .none, redLossDeclared := false }
  snapshot :=
    { sequence := 0#16, clock := 0#32, mode := .dark, scanMode := img.scanMode,
      groups := Vector.replicate 16
        { state := .dark, proven := Vector.replicate 4 0, redLost := false, unexpected := false, inhibited := false,
          withheld := false } }

/-- A cable record after power-on (R143). -/
def CableRecord.fresh : CableRecord where
  cls := .notTested
  positive := 0
  negative := 0
  leakage := 0
  offset := 0
  worst := 0
  done := 0
  interrupted := 0
  lastTest := 0#32

/-- The Cable Test Unit after reset over an image (R129). With the unit enabled the interval timer runs and nothing
is due, so the state settles as IDLE (R130). -/
def CableUnit.reset (img : Image) : CableUnit where
  unitState := if img.cableEnabled then .idle else .disabled
  enabled := img.cableEnabled
  cyclicRunning := img.cyclicRunning
  stopWaiting := false
  testSet := img.testSet
  interval := img.interval
  pointer := 0
  lastTestEnd := 0#32
  intervalTimer := img.cableEnabled
  intervalPassed := false
  queue := []
  flight := none
  records := Vector.replicate 64 CableRecord.fresh

/-- The four qualifiers after reset over an image (R146). -/
def Qualifier.resetAll (img : Image) : Vector Qualifier 4 := Vector.ofFn fun q =>
  let c := img.qualifiers[q]
  { source := c.source, subject := c.subject, a := c.a, b := c.b, combine := c.combine, count := c.count,
    action := c.action, remaining := 0, aSeen := false, bSeen := false, state := .idle }

/-- The empty fault table (R156, R162). -/
def FaultTable.empty : FaultTable where
  records := []
  overflow := 0
  line := false

/-- The empty stage history (R164). -/
def History.empty : History where
  ring := []
  next := 0#16
  lastStage := 0
  cursors := { plan := 0#16, monitor := 0#16, maintenance := 0#16 }

/-- A port record after reset (R166). -/
def PortRecord.reset : PortRecord where
  state := .idle
  received := []
  response := none
  overrun := false
  shadow := []
  ignoring := false
  selected := false
  sending := false
  shifted := 0
  dataOut := 0#8
  lastByte := 0#32

/-- The running stage before any plan is loaded: stage 1 of an INVALID plan 1, whose fields are 0 (R61, R67). -/
def RunningStage.initial : RunningStage where
  plan := 0
  index := 1
  set := noGroups
  endPoint := 0
  precedingEnd := 0
  stageMin := 0
  stageMax := 0
  demandDependent := false
  elastic := false
  substituted := false

/-- The BV16 right after power-on or the RESET line: every record at its reset value, the store LOADING, no time
passed (R174). Stored fields hold their failed-check defaults until the load ends (log 3). -/
def State.reset : State where
  pending := []
  outbox := []
  uptimeMs := 0
  expiries := 0
  engine := Engine.reset Image.default
  conflicts := { matrix := Image.default.matrix, intergreens := Image.default.intergreens, stagedRows := [],
                 stagedParts := 0 }
  seq := Sequencer.reset Image.default 0 RunningStage.initial
  lamps := LampUnit.reset Image.default
  cable := CableUnit.reset Image.default
  quals := Qualifier.resetAll Image.default
  faults := FaultTable.empty
  history := History.empty
  ports := { plan := PortRecord.reset, monitor := PortRecord.reset, maintenance := PortRecord.reset }
  store := { state := .loading, lastLoad := .bad, lastSave := .none, lastSaveTime := 0#32, copy := none, timer := 0,
             toWrite := [], memory := [] }

end Sys2Proof.Machine
end

