-- ==== Sys2Proof/Machine/Codec.lean ====
section
/-! DEFINITION. The byte conventions of R172: little-endian numbers, two's complement, enumerations numbered in the
order their rule lists them, sets as bit maps, and the lists of values that fix those numbers. -/

namespace Sys2Proof.Machine

/-- One byte of a number whose range lies within 0 to 255 (R172). -/
def u8 (n : Nat) : List Byte := [BitVec.ofNat 8 n]

/-- A two-byte number, least significant byte first (R172). -/
def u16 (n : Nat) : List Byte := [BitVec.ofNat 8 n, BitVec.ofNat 8 (n / 256)]

/-- A two-byte number in two's complement (R172). -/
def i16 (n : Int) : List Byte := u16 (BitVec.ofInt 16 n).toNat

/-- A four-byte time or clock value, least significant byte first (R172). -/
def u32 (c : Clock) : List Byte :=
  [BitVec.ofNat 8 c.toNat, BitVec.ofNat 8 (c.toNat / 256), BitVec.ofNat 8 (c.toNat / 65536),
   BitVec.ofNat 8 (c.toNat / 16777216)]

/-- A flag: 0x00 clear, 0x01 set (R172). -/
def flag (b : Bool) : List Byte := [if b then 1#8 else 0#8]

/-- The number whose bit k is the k-th member of the list. -/
def bitsToNat : List Bool → Nat
  | [] => 0
  | b :: bs => (if b then 1 else 0) + 2 * bitsToNat bs

/-- The bytes of a bit map, eight members a byte, lowest first. -/
def bitBytes : List Bool → Nat → List Byte
  | _, 0 => []
  | bs, k + 1 => BitVec.ofNat 8 (bitsToNat (bs.take 8)) :: bitBytes (bs.drop 8) k

/-- A group set: two bytes, bit g − 1 for group g (R172). -/
def groupSetBytes (s : GroupSet) : List Byte := bitBytes s.toList 2

/-- A set of cores: eight bytes, bit c − 1 for core c (R172). -/
def coreSetBytes (s : CoreSet) : List Byte := bitBytes s.toList 8

/-- DESIGN CHOICE (log 11): a set of stage indexes is sent as a group set is, bit n − 1 for stage index n. -/
def stageSetBytes (s : StageSet) : List Byte := bitBytes s.toList 2

/-- The number of a value in the list of its type's values (R172). -/
def codeOf {α : Type} [DecidableEq α] (values : List α) (x : α) : Nat := values.idxOf x

/-- The value with a number, when there is one. -/
def valueOf {α : Type} (values : List α) (n : Nat) : Option α := values[n]?

/-- One enumerated byte (R172). -/
def enum {α : Type} [DecidableEq α] (values : List α) (x : α) : List Byte := u8 (codeOf values x)

def groupTypes : List GroupType := [.vehicle, .pedestrian, .tram, .unused]
def groupStates : List GroupState := [.dark, .flashing, .red, .redAmber, .green, .amber, .clearance]
def letters : List Letter := [.R, .A, .G, .X]
def aspectCommands : List AspectCommand := [.off, .steady, .flashing]
def modes : List Mode := [.dark, .start, .run, .held, .flash, .supplyOff]
def startPhases : List StartPhase := [.none, .flashPhase, .allRedPhase]
def holdCauses : List HoldCause := [.none, .maintRequest, .planRequest, .panel, .stepCount, .qualifier]
def budgetPorts : List BudgetPort := [.none, .plan, .maintenance]
def validities : List Validity := [.valid, .invalid]
def seqStates : List SeqState := [.stopped, .awaiting, .timing]
def correctionStates : List CorrectionState := [.none, .stored, .applying]
def directions : List Direction := [.shorten, .lengthen]
def filterStates : List FilterState := [.low, .rising, .high]
def watchStates : List WatchState := [.inactive, .running, .expired]
def scanStates : List ScanState := [.suspended, .scanning]
def scanModes : List ScanMode := [.threeRow, .fourRow]
def latches : List Latch := [.lit, .dark, .none]
def readingClasses : List ReadingClass := [.unscanned, .senseFault, .stale, .saturated, .lit, .darkOk, .unexpected]
def lampTypes : List LampType := [.filament, .led]
def learnStates : List LearnState := [.none, .darkPending, .litPending]
def unitStates : List UnitState := [.disabled, .idle, .waiting, .testing, .stopping]
def queueOrigins : List QueueOrigin := [.request, .lampOut, .redLost]
def testSources : List TestSource := [.queue, .cyclic]
def testPhases : List TestPhase := [.positive, .negative]
def cableClasses : List CableClass := [.notTested, .valid, .asymmetric, .saturated, .interrupted, .noWindow]
def qualifierSources : List QualifierSource := [.cableLeakage, .cableOffset, .lampNet, .lampProven]
def conditions : List Condition := [.above, .below, .equal, .notEqual]
def combineRules : List CombineRule := [.aAndB, .aOrB, .bAfterA, .aAfterB]
def qualifierActions : List QualifierAction := [.report, .hold, .flash]
def qualifierStates : List QualifierState := [.idle, .armed, .fired]
def faultKinds : List FaultKind :=
  [.lampPartial, .lampOut, .redLost, .lampUncertain, .lampOverload, .unexpectedCurrent, .conflictObserved, .senseFault,
   .cableAsymmetric, .cableNoWindow, .qualifierFired, .syncLost, .contactor, .storeCheck, .forced]
def entryKinds : List EntryKind := [.change, .skip, .plan, .hold, .mode]
def storeStates : List StoreState := [.loading, .idle, .saving]
def loadOutcomes : List LoadOutcome := [.good, .bad]
def saveOutcomes : List SaveOutcome := [.none, .good, .bad]
def markers : List Marker := [.complete, .incomplete]
def statuses : List Status :=
  [.ok, .badCheck, .badLength, .badRequest, .notPermitted, .wrongMode, .range, .busy, .armed, .conflict, .inUse,
   .invalidPlan, .notOwner, .blocked, .queueFull, .empty]

/-- A plan number 1 to 8, as a byte (R172). -/
def planByte (p : PlanId) : List Byte := u8 (p.val + 1)

/-- An aspect or core: one byte holding its core number (R172). -/
def coreByte (c : CoreId) : List Byte := u8 (c.val + 1)

/-- A tag: plan, stage index, substituted flag and cycle timer value (R49, R70). -/
def tagBytes (t : Tag) : List Byte := planByte t.plan ++ u8 t.stage ++ flag t.substituted ++ u16 t.cycleAt

/-! ## Reading bytes -/

/-- A parser over bytes: the value read and the bytes left, or none. -/
abbrev Reader (α : Type) := List Byte → Option (α × List Byte)

/-- One byte as a number. -/
def rdU8 : Reader Nat
  | b :: rest => some (b.toNat, rest)
  | [] => none

/-- Two bytes as a number, least significant first. -/
def rdU16 : Reader Nat
  | a :: b :: rest => some (a.toNat + 256 * b.toNat, rest)
  | _ => none

/-- Two bytes as a signed number. -/
def rdI16 : Reader Int
  | a :: b :: rest => some ((BitVec.ofNat 16 (a.toNat + 256 * b.toNat)).toInt, rest)
  | _ => none

/-- A fixed number of readings of one kind, in order. -/
def rdMany {α : Type} (r : Reader α) : Nat → Reader (List α)
  | 0, bs => some ([], bs)
  | n + 1, bs => do
    let (x, bs) ← r bs
    let (xs, bs) ← rdMany r n bs
    return (x :: xs, bs)

/-- A fixed number of readings of one kind, as a bank. -/
def rdBank {α : Type} (r : Reader α) (n : Nat) : Reader (Vector α n) := fun bs => do
  let (xs, bs) ← rdMany r n bs
  if h : xs.toArray.size = n then return (⟨xs.toArray, h⟩, bs) else none

/-- One raw byte. -/
def rdByte : Reader Byte
  | b :: rest => some (b, rest)
  | [] => none

/-- Whether bit k of a byte map is set. -/
def mapBit (bs : List Byte) (k : Nat) : Bool := (bs.getD (k / 8) 0#8).getLsbD (k % 8)

/-- A bit map of n members in n / 8 bytes. -/
def rdBits (n : Nat) : Reader (Vector Bool n) := fun bs =>
  if bs.length < n / 8 then none else some (Vector.ofFn fun k => mapBit bs k.val, bs.drop (n / 8))

/-- An enumerated byte, none when no value has that number. -/
def rdEnum {α : Type} (values : List α) : Reader α := fun bs => do
  let (n, bs) ← rdU8 bs
  let x ← valueOf values n
  return (x, bs)

/-- A flag byte, none when it is neither 0x00 nor 0x01. -/
def rdFlag : Reader Bool := rdEnum [false, true]

/-- A number within a range, none outside it. -/
def rdIn (lo hi : Nat) (r : Reader Nat) : Reader Nat := fun bs => do
  let (n, bs) ← r bs
  if lo ≤ n ∧ n ≤ hi then return (n, bs) else none

/-- A number 1 to n, as an index. -/
def rdIndex (n : Nat) : Reader (Fin n) := fun bs => do
  let (k, bs) ← rdU8 bs
  if h : 1 ≤ k ∧ k ≤ n then return (⟨k - 1, by omega⟩, bs) else none

end Sys2Proof.Machine
end

