-- ==== Sys2Proof/Machine/Operands.lean ====
section
/-! DEFINITION. The operand forms of the commands: how the numbers of a request become groups, aspects, plans and
enumerated values, and which numbers lie outside them (answered RANGE by the rules that say so). -/

namespace Sys2Proof.Machine

/-- A number 1 to n as an index, none outside that range. -/
def numbered (n k : Nat) : Option (Fin n) := if h : 1 ≤ k ∧ k ≤ n then some ⟨k - 1, by omega⟩ else none

/-- A group number 1 to 16 (R2). -/
def groupNumber (k : Nat) : Option GroupId := numbered 16 k

/-- An aspect or core, by its core number 1 to 64 (R128, R172). -/
def coreNumber (k : Nat) : Option CoreId := numbered 64 k

/-- A plan number 1 to 8 (R61). -/
def planNumber (k : Nat) : Option PlanId := numbered 8 k

/-- A substitution entry number 1 or 2 (R79). -/
def entryNumber (k : Nat) : Option EntryId := numbered 2 k

/-- A qualifier number 1 to 4 (R146). -/
def qualifierNumber (k : Nat) : Option QualId := numbered 4 k

/-- A flag argument: 0x00 or 0x01 (R172). -/
def flagArg (n : Nat) : Option Bool := valueOf [false, true] n

/-- Whether a number lies in a stated range. -/
def within (lo hi n : Nat) : Bool := decide (lo ≤ n) && decide (n ≤ hi)

/-- The value nearer end of a range when outside it (a clamped value). -/
def clamp (lo hi n : Nat) : Nat := max lo (min hi n)

/-- A signed value clamped into a range. -/
def clampInt (lo hi n : Int) : Int := max lo (min hi n)

/-- The position of a letter in its group's four aspects. -/
def letterIndex : Letter → Fin 4
  | .R => 0
  | .A => 1
  | .G => 2
  | .X => 3

/-- The core of an aspect: number 4 × (g − 1) plus 1 for R, 2 for A, 3 for G and 4 for X (R128). -/
def coreOf (g : GroupId) (l : Letter) : CoreId := ⟨4 * g.val + (letterIndex l).val, by have := (letterIndex l).isLt; omega⟩

/-- The group of a core (R128). -/
def groupOf (c : CoreId) : GroupId := ⟨c.val / 4, by omega⟩

/-- The letter of a core (R128). -/
def letterOf (c : CoreId) : Letter :=
  if c.val % 4 = 0 then .R else if c.val % 4 = 1 then .A else if c.val % 4 = 2 then .G else .X

/-- Every group, in ascending number. -/
def allGroups : List GroupId := List.finRange 16

/-- Every core, in ascending core order (R128). -/
def allCores : List CoreId := List.finRange 64

/-- A fault subject that suits a kind, from the byte of a request (R161, R172): a group 1 to 16, an aspect or core 1
to 64, a qualifier 1 to 4, or 0x00 for none, as the kind requires. -/
def subjectFor (kind : FaultKind) (n : Nat) : Option Subject :=
  match kind with
  | .lampPartial | .lampOut | .lampUncertain | .lampOverload | .unexpectedCurrent => (coreNumber n).map .aspect
  | .redLost | .conflictObserved | .senseFault => (groupNumber n).map .group
  | .cableAsymmetric | .cableNoWindow => (coreNumber n).map .core
  | .qualifierFired => (qualifierNumber n).map .qualifier
  | .syncLost | .contactor | .storeCheck | .forced => if n = 0 then some .none else none

/-- Whether a subject is of the kind a fault kind requires (the table of kinds). -/
def suits (kind : FaultKind) (subject : Subject) : Bool :=
  match kind, subject with
  | .lampPartial, .aspect _ | .lampOut, .aspect _ | .lampUncertain, .aspect _ | .lampOverload, .aspect _
  | .unexpectedCurrent, .aspect _ => true
  | .redLost, .group _ | .conflictObserved, .group _ | .senseFault, .group _ => true
  | .cableAsymmetric, .core _ | .cableNoWindow, .core _ => true
  | .qualifierFired, .qualifier _ => true
  | .syncLost, .none | .contactor, .none | .storeCheck, .none | .forced, .none => true
  | _, _ => false

/-- A subject's byte in a fault record (R172). -/
def subjectByte : Subject → Nat
  | .none => 0
  | .group g => g.val + 1
  | .aspect c => c.val + 1
  | .core c => c.val + 1
  | .qualifier q => q.val + 1

end Sys2Proof.Machine
end

