-- ==== Sys2Proof/Machine/Ops.lean ====
section
/-! DEFINITION. The named operations every block uses: one updater per field of State, the time the part measures,
messages between blocks, the fault table's raise, clear and acknowledgement, the stage history's entries, and the
answering of a request on its port. -/

namespace Sys2Proof.Machine

/-! ## Updaters -/

def State.onOutbox (s : State) (f : List Instr → List Instr) : State := { s with outbox := f s.outbox }
def State.onEngine (s : State) (f : Engine → Engine) : State := { s with engine := f s.engine }
def State.onConflicts (s : State) (f : ConflictTable → ConflictTable) : State := { s with conflicts := f s.conflicts }
def State.onSeq (s : State) (f : Sequencer → Sequencer) : State := { s with seq := f s.seq }
def State.onLamps (s : State) (f : LampUnit → LampUnit) : State := { s with lamps := f s.lamps }
def State.onCable (s : State) (f : CableUnit → CableUnit) : State := { s with cable := f s.cable }
def State.onQuals (s : State) (f : Vector Qualifier 4 → Vector Qualifier 4) : State := { s with quals := f s.quals }
def State.onFaults (s : State) (f : FaultTable → FaultTable) : State := { s with faults := f s.faults }
def State.onHistory (s : State) (f : History → History) : State := { s with history := f s.history }
def State.onPorts (s : State) (f : PerPort PortRecord → PerPort PortRecord) : State := { s with ports := f s.ports }
def State.onStore (s : State) (f : Store → Store) : State := { s with store := f s.store }

/-! ## Time -/

/-- The present time in ms since reset, a 32-bit count (chapter 00, Numbers and units). -/
def State.nowMs (s : State) : Clock := BitVec.ofNat 32 s.uptimeMs

/-- The present time in whole seconds since reset (chapter 00, Numbers and units). -/
def State.nowSec (s : State) : Clock := BitVec.ofNat 32 (s.uptimeMs / 1000)

/-- Whether the image is being loaded: until the load ends the part stays in its reset state (R174). -/
def State.loading (s : State) : Bool := s.store.state == .loading

/-- Whether a store save is in flight (R175). -/
def State.saving (s : State) : Bool := s.store.state == .saving

/-- An event the part takes from its inputs or one block takes from another. Until the load ends every block stands
still, and the event has no effect (R174). -/
def event (s : State) (f : State → State) : State := if s.loading then s else f s

/-! ## The store port -/

/-- The memory after a write. A save writes from byte 0 on, so no write leaves a gap. -/
def StoreWrite.into (memory : List Byte) (w : StoreWrite) : List Byte :=
  memory.take w.place ++ w.bytes ++ memory.drop (w.place + w.bytes.length)

/-- Crystal time passes for the store: the time of a load or a save moves on (R174, R176), and a save makes the next of
its writes in each ms (R175; one a ms: DESIGN CHOICE, log 23). -/
def Store.pass (ms : Nat) (r : Store) : Store :=
  match r.state with
  | .idle => r
  | .loading => { r with timer := r.timer + ms }
  | .saving =>
    { r with timer := r.timer + ms, toWrite := r.toWrite.drop ms,
             memory := (r.toWrite.take ms).foldl StoreWrite.into r.memory }

/-! ## Messages -/

/-- Messages one block sends another, each to be taken as an event of its own. -/
def State.send (s : State) (messages : List Instr) : State := s.onOutbox (· ++ messages)

/-- A message is taken: the oldest one like it is no longer in transit. -/
def State.taking (s : State) (message : Instr) : State := s.onOutbox (·.erase message)

/-! ## Fault table -/

/-- Whether a record has this key (R156). -/
def FaultRecord.hasKey (kind : FaultKind) (subject : Subject) (r : FaultRecord) : Bool :=
  r.kind == kind && r.subject == subject

/-- The FAULT line: asserted while a record is ACTIVE or unacknowledged or the overflow count is above 0 (R162). -/
def faultLine (records : List FaultRecord) (overflow : Nat) : Bool :=
  records.any (fun r => r.state == .active || !r.acknowledged) || decide (0 < overflow)

/-- The table with these records and this overflow count, and its line set (R162). -/
def FaultTable.make (records : List FaultRecord) (overflow : Nat) : FaultTable where
  records := records
  overflow := overflow
  line := faultLine records overflow

/-- A raise on a record of its own key: ACTIVE keeps everything but last seen; INACTIVE goes ACTIVE, unacknowledged,
with its occurrences raised (R157). -/
def FaultRecord.raised (now : Clock) (r : FaultRecord) : FaultRecord :=
  match r.state with
  | .active => { r with lastSeen := now }
  | .inactive => { r with state := .active, acknowledged := false, lastSeen := now,
                          occurrences := saturate 255 (r.occurrences + 1) }

/-- A record that a full table may remove to make room: INACTIVE and not of kind CONFLICT_OBSERVED (R159). -/
def FaultRecord.evictable (r : FaultRecord) : Bool := r.state == .inactive && !(r.kind == .conflictObserved)

/-- A new record for a key (R157). -/
def FaultRecord.new (kind : FaultKind) (subject : Subject) (now : Clock) : FaultRecord where
  kind := kind
  subject := subject
  state := .active
  acknowledged := false
  firstSeen := now
  lastSeen := now
  occurrences := 1

/-- A raise of a key (R157), with room made in a full table as R159 gives. -/
def FaultTable.raise (kind : FaultKind) (subject : Subject) (now : Clock) (t : FaultTable) : FaultTable :=
  if t.records.any (FaultRecord.hasKey kind subject) then
    FaultTable.make
      (t.records.map fun r => if FaultRecord.hasKey kind subject r then r.raised now else r) t.overflow
  else if t.records.length < 32 then
    FaultTable.make (t.records ++ [FaultRecord.new kind subject now]) t.overflow
  else if t.records.any FaultRecord.evictable then
    FaultTable.make (t.records.eraseP FaultRecord.evictable ++ [FaultRecord.new kind subject now]) t.overflow
  else
    FaultTable.make t.records (saturate 255 (t.overflow + 1))

/-- A record after the clear of its key: none when it is removed (R158). -/
def FaultRecord.cleared (r : FaultRecord) : Option FaultRecord :=
  match r.state, r.acknowledged with
  | .active, false => some { r with state := .inactive }
  | .active, true => none
  | .inactive, _ => some r

/-- A clear of a key (R158). -/
def FaultTable.clear (kind : FaultKind) (subject : Subject) (t : FaultTable) : FaultTable :=
  FaultTable.make
    (t.records.filterMap fun r => if FaultRecord.hasKey kind subject r then r.cleared else some r) t.overflow

/-- A record after its acknowledgement: INACTIVE ones are removed (R161). -/
def FaultRecord.acked (r : FaultRecord) : Option FaultRecord :=
  match r.state with
  | .active => some { r with acknowledged := true }
  | .inactive => none

/-- An acknowledgement of every record that `which` picks (R161). -/
def FaultTable.acknowledge (which : FaultRecord → Bool) (t : FaultTable) : FaultTable :=
  FaultTable.make (t.records.filterMap fun r => if which r then r.acked else some r) t.overflow

/-- A block raises a fault at the present second (R157). -/
def State.raise (kind : FaultKind) (subject : Subject) (s : State) : State :=
  s.onFaults (FaultTable.raise kind subject s.nowSec)

/-- A block clears a fault (R158). -/
def State.clear (kind : FaultKind) (subject : Subject) (s : State) : State :=
  s.onFaults (FaultTable.clear kind subject)

/-- Whether the table holds a record of this kind that `which` picks (R22). -/
def FaultTable.holds (kind : FaultKind) (which : FaultRecord → Bool) (t : FaultTable) : Bool :=
  t.records.any fun r => r.kind == kind && which r

/-- A raise or a clear that a frame completion makes. -/
inductive FaultAction where
  | raise (kind : FaultKind) (subject : Subject)
  | clear (kind : FaultKind) (subject : Subject)
  deriving DecidableEq, Repr

/-- One raise or clear, taken by the table. -/
def State.act (s : State) : FaultAction → State
  | .raise k x => s.raise k x
  | .clear k x => s.clear k x

/-- Raises and clears, taken in order. -/
def State.actAll (s : State) (actions : List FaultAction) : State := actions.foldl State.act s

/-! ## Stage history -/

/-- The entry the ring makes of an item (R164): each field by its kind's row, 0 or empty where the kind has none. -/
def History.entryOf (h : History) (now : Clock) (item : HistoryItem) : HistoryEntry :=
  match item with
  | .change tag duration withheld =>
    { sequence := h.next, time := now, kind := .change, plan := tag.plan, fromStage := h.lastStage,
      toStage := tag.stage, cycleAt := tag.cycleAt, duration := saturate 255 duration, withheld := withheld,
      substituted := tag.substituted, detail := .none }
  | .skip plan fromStage toStage cycleAt =>
    { sequence := h.next, time := now, kind := .skip, plan := plan, fromStage := fromStage, toStage := toStage,
      cycleAt := cycleAt, duration := 0, withheld := noGroups, substituted := false, detail := .none }
  | .plan plan cycleAt =>
    { sequence := h.next, time := now, kind := .plan, plan := plan, fromStage := 0, toStage := 0,
      cycleAt := cycleAt, duration := 0, withheld := noGroups, substituted := false, detail := .none }
  | .hold plan stage cycleAt cause =>
    { sequence := h.next, time := now, kind := .hold, plan := plan, fromStage := 0, toStage := stage,
      cycleAt := cycleAt, duration := 0, withheld := noGroups, substituted := false, detail := .cause cause }
  | .mode plan cycleAt mode =>
    { sequence := h.next, time := now, kind := .mode, plan := plan, fromStage := 0, toStage := 0,
      cycleAt := cycleAt, duration := 0, withheld := noGroups, substituted := false, detail := .mode mode }

/-- The last-stage note after an entry: a CHANGE's to stage; 0 at a MODE entry with mode START (R164). -/
def noteAfter (note : Nat) (item : HistoryItem) : Nat :=
  match item with
  | .change tag _ _ => tag.stage
  | .mode _ _ .start => 0
  | _ => note

/-- The ring takes an entry: it has the next sequence number, and it takes the place of the oldest when 16 are held
(R164). -/
def History.take (now : Clock) (item : HistoryItem) (h : History) : History where
  ring := (if h.ring.length < 16 then h.ring else h.ring.drop (h.ring.length - 15)) ++ [h.entryOf now item]
  next := h.next + 1#16
  lastStage := noteAfter h.lastStage item
  cursors := h.cursors

/-- A block sends the Stage History an entry (R164). -/
def State.record (item : HistoryItem) (s : State) : State := s.onHistory (History.take s.nowSec item)

/-! ## Answering a request -/

/-- An answer: its status and payload. -/
structure Answer where
  status : Status
  payload : List Byte
  deriving DecidableEq, Repr

/-- The ports R171 gives a request code, and none for a code outside the table. -/
def rights (code : Nat) : Option (List Port) :=
  if code ∈ [1, 17, 19, 20, 21, 22, 23, 24, 28, 31, 53] then some [.plan]
  else if code ∈ [3, 4, 5, 6, 12, 13] then some [.monitor]
  else if code ∈ [32, 34, 35, 36, 37, 38, 39, 40, 41, 44, 45, 46, 49] then some [.maintenance]
  else if code ∈ [7, 8, 9, 10] then some [.plan, .maintenance]
  else if code ∈ [29, 48] then some [.monitor, .maintenance]
  else if 1 ≤ code ∧ code ≤ 54 then some [.plan, .monitor, .maintenance]
  else none

/-- Whether a port may make the request with this code (R171). -/
def permitted (code : Nat) (p : Port) : Bool :=
  match rights code with
  | some ports => ports.contains p
  | none => false

/-- The response frame built on a port: the overrun flag is copied into it and cleared, and the port becomes
RESPONDING with nothing of it shifted out yet (R169, R170). Every status other than OK carries no payload. -/
def PortRecord.respond (code : Byte) (a : Answer) (r : PortRecord) : PortRecord :=
  { r with
    state := .responding
    received := []
    response := some { code := code, status := a.status, overrun := r.overrun,
                       payload := if a.status = .ok then a.payload else [] }
    overrun := false
    sending := false
    shifted := 0 }

/-- One port record is changed. -/
def State.onPort (p : Port) (f : PortRecord → PortRecord) (s : State) : State :=
  s.onPorts fun v => v.put p (f (v.at p))

/-- A block answers the request with this code on its port (R169). -/
def State.respond (p : Port) (code : Nat) (a : Answer) (s : State) : State :=
  s.onPort p (PortRecord.respond (BitVec.ofNat 8 code) a)

/-- A block takes the request with this code from a port and answers it (R169): the body gives the state after the
request and the answer. A port without the right is answered NOT_PERMITTED and no block sees the request (R167,
R171). Until the load ends the ports do not receive, so nothing is taken (R174). -/
def serve (code : Nat) (p : Port) (s : State) (body : State → State × Answer) : State :=
  if s.loading then s
  else if permitted code p then State.respond p code (body s).2 (body s).1
  else State.respond p code { status := .notPermitted, payload := [] } s

/-- A refusal: nothing changes. -/
def refuse (status : Status) (s : State) : State × Answer := (s, { status := status, payload := [] })

/-- An answer of OK with its payload. -/
def okWith (payload : List Byte) (s : State) : State × Answer := (s, { status := .ok, payload := payload })

/-- An answer of OK with no fields. -/
def okay (s : State) : State × Answer := okWith [] s

/-- The four bytes of the decisecond clock value at which a response is built. -/
def clockBytes (s : State) : List Byte := u32 s.engine.clock

end Sys2Proof.Machine
end

