-- ==== Sys2Proof/Machine/Conflicts.lean ====
section
/-! DEFINITION. The questions the Conflict Table answers (R40 to R42): which groups conflict, whether the intergreens
cover the endings, and whether a group set is free of conflicts. -/

namespace Sys2Proof.Machine

/-- Whether groups i and j conflict under a matrix and given types: the entry is true and neither is UNUSED (R40). -/
def conflictUnder (matrix : Vector GroupSet 16) (types : GroupId → GroupType) (i j : GroupId) : Bool :=
  matrix[i][j] && types i != .unused && types j != .unused

/-- The types in force. -/
def State.typeOf (s : State) (g : GroupId) : GroupType := s.engine.groups[g].type

/-- Whether groups i and j conflict (R40, R42). -/
def State.conflict (s : State) (i j : GroupId) : Bool := conflictUnder s.conflicts.matrix s.typeOf i j

/-- IG[i][j] in ds (R41). -/
def ConflictTable.ig (t : ConflictTable) (i j : GroupId) : Nat := t.intergreens[i][j].toNat

/-- Whether a matrix is symmetric with a false diagonal (R40). -/
def matrixSound (matrix : Vector GroupSet 16) : Bool :=
  allGroups.all fun i => !matrix[i][i] && allGroups.all fun j => matrix[i][j] == matrix[j][i]

/-- The ending time of a group: amber for VEHICLE and TRAM, clearance for PEDESTRIAN, 0 for UNUSED (R14). -/
def endingTime (type : GroupType) (amber clearance : Nat) : Nat :=
  match type with
  | .vehicle | .tram => amber
  | .pedestrian => clearance
  | .unused => 0

/-- The ending time of a group record (R14). -/
def Group.ending (g : Group) : Nat := endingTime g.type g.amber g.clearance

/-- Whether an intergreen covers the ending of i and the red-amber of j (R15, R41). -/
def intergreenCovers (ig : Nat) (i j : Group) : Bool := decide (i.ending + j.redAmber ≤ ig)

/-- Whether every pair that conflicts meets the intergreen inequality in both orders (R41, R43, R45). -/
def intergreensSound (matrix : Vector GroupSet 16) (ig : GroupId → GroupId → Nat) (groups : Vector Group 16) : Bool :=
  allGroups.all fun i => allGroups.all fun j =>
    !conflictUnder matrix (fun g => groups[g].type) i j || intergreenCovers (ig i j) groups[i] groups[j]

/-- Whether no two groups of a set conflict (R42). -/
def State.conflictFree (s : State) (set : GroupSet) : Bool :=
  allGroups.all fun i => allGroups.all fun j => !(set[i] && set[j] && s.conflict i j)

end Sys2Proof.Machine
end

