-- ==== Sys2Proof/Machine/Plans.lean ====
section
/-! DEFINITION. Stages as the sequencer takes them (R61, R70, R79): lookup in a plan, substitution, and the running
stage that a request forms. -/

namespace Sys2Proof.Machine

/-- A stage whose fields are all 0. -/
def Stage.zero : Stage where
  set := noGroups
  endPoint := 0
  stageMin := 0
  stageMax := 0
  demandDependent := false
  elastic := false

/-- The stage with an index from 1 (R61). -/
def Plan.stage (p : Plan) (index : Nat) : Stage :=
  match numbered 12 index with
  | some k => p.stages[k]
  | none => Stage.zero

/-- The plan in force (R62). -/
def Sequencer.plan (q : Sequencer) : Plan := q.plans[q.inForce]

/-- Whether a substitution entry matches a stage index of the plan in force (R79). -/
def SubstEntry.covers (e : SubstEntry) (q : Sequencer) (index : Nat) : Bool :=
  e.enabled && e.plan == q.inForce && e.stage == index && decide (index ≤ q.plan.count)

/-- The entry that matches a stage index of the plan in force, if one does (R79). Where both match, which only an image
could bring about, it is entry 1 (DESIGN CHOICE, log 33). -/
def Sequencer.substFor (q : Sequencer) (index : Nat) : Option SubstEntry :=
  if q.substs[0].covers q index then some q.substs[0]
  else if q.substs[1].covers q index then some q.substs[1]
  else none

/-- The index before another in list order, stage n preceding stage 1 (R73). -/
def precedingIndex (count index : Nat) : Nat := if index ≤ 1 then count else index - 1

/-- The end point of the stage that precedes an index in list order (R73). -/
def Sequencer.precedingEnd (q : Sequencer) (index : Nat) : Nat :=
  (q.plan.stage (precedingIndex q.plan.count index)).endPoint

/-- The stage at an index of the plan in force, as a request would take it: a matching entry gives its group set,
minimum, maximum and demand flag; an elastic stage is never demand-dependent (R70, R79). -/
def Sequencer.form (q : Sequencer) (index : Nat) : RunningStage :=
  let st := q.plan.stage index
  match q.substFor index with
  | some e =>
    { plan := q.inForce, index := index, set := e.set, endPoint := st.endPoint, precedingEnd := q.precedingEnd index,
      stageMin := e.stageMin, stageMax := e.stageMax, demandDependent := e.demandFlag && !st.elastic,
      elastic := st.elastic, substituted := true }
  | none =>
    { plan := q.inForce, index := index, set := st.set, endPoint := st.endPoint, precedingEnd := q.precedingEnd index,
      stageMin := st.stageMin, stageMax := st.stageMax, demandDependent := st.demandDependent, elastic := st.elastic,
      substituted := false }

/-- Whether a demand is latched for a stage index (R67, R77). -/
def Sequencer.latched (q : Sequencer) (index : Nat) : Bool :=
  match numbered 12 index with
  | some k => q.demands[k]
  | none => false

/-- The demand latches with one index added or removed (R71, R77). -/
def setLatch (demands : StageSet) (index : Nat) (on : Bool) : StageSet :=
  match numbered 12 index with
  | some k => put demands k on
  | none => demands

end Sys2Proof.Machine
end

