-- ==== Sys2Proof/Machine/Flags.lean ====
section
/-! DEFINITION. The flags and outputs that follow from the rest of the state: aspect commands and levels (R4 to R6),
inhibition and withholding (R57, R59), eligibility (R128) and the due point (R73). -/

namespace Sys2Proof.Machine

/-- The common flash phase: lit while the clock modulo 10 is 0 to 4 (R4). -/
def flashLit (clock : Clock) : Bool := decide (clock.toNat % 10 < 5)

/-- The output level of a command (R5). -/
def levelOf (clock : Clock) : AspectCommand → Bool
  | .off => false
  | .steady => true
  | .flashing => flashLit clock

/-- The aspect command of a group's type and state; `wait` is the wait condition of R6 (R5). -/
def commandFor (type : GroupType) (state : GroupState) (wait : Bool) (letter : Letter) : AspectCommand :=
  match type, state, letter with
  | .vehicle, .flashing, .A => .flashing
  | .vehicle, .red, .R => .steady
  | .vehicle, .redAmber, .R => .steady
  | .vehicle, .redAmber, .A => .steady
  | .vehicle, .green, .G => .steady
  | .vehicle, .amber, .A => .steady
  | .pedestrian, .red, .R => .steady
  | .pedestrian, .red, .X => if wait then .steady else .off
  | .pedestrian, .green, .G => .steady
  | .pedestrian, .clearance, .G => .flashing
  | .tram, .flashing, .A => .flashing
  | .tram, .red, .R => .steady
  | .tram, .green, .G => .steady
  | .tram, .amber, .A => .steady
  | _, _, _ => .off

/-- The wait condition of a group: a demand is latched for a stage of the plan in force whose group set, as the
sequencer would use it, holds the group (R6). The state and type of the group are judged by `commandFor`. -/
def State.waitWanted (s : State) (g : GroupId) : Bool :=
  (List.range s.seq.plan.count).any fun k => s.seq.latched (k + 1) && (s.seq.form (k + 1)).set[g]

/-- The command the engine's state calls for on an aspect (R5, R6). -/
def State.wantedCommand (s : State) (c : CoreId) : AspectCommand :=
  let g := s.engine.groups[groupOf c]
  commandFor g.type g.state (s.waitWanted (groupOf c)) (letterOf c)

/-- The command presented on an aspect (R5). -/
def State.command (s : State) (c : CoreId) : AspectCommand := s.engine.aspects[c].command

/-- The fitted count of an aspect (R111). -/
def State.fitted (s : State) (c : CoreId) : Nat := s.lamps.lamps[c].fitted

/-- Whether a core is eligible: fitted, with its aspect command OFF (R128). -/
def State.eligible (s : State) (c : CoreId) : Bool := decide (0 < s.fitted c) && s.command c == .off

/-- Whether a group is inhibited: some group that conflicts with it has red_lost (R57). -/
def State.inhibitedNow (s : State) (j : GroupId) : Bool :=
  allGroups.any fun i => s.conflict i j && s.engine.groups[i].redLost

/-- The mode runs the groups' own sequences: RUN or HELD (R51, R52, R58). -/
def isRunning (m : Mode) : Bool := m == .run || m == .held

/-- The modes in which the lamp supply contactor is open: DARK and SUPPLY_OFF (R17). -/
def isSupplied (m : Mode) : Bool := !(m == .dark || m == .supplyOff)

/-- The modes in which tables may be written: DARK, FLASH and SUPPLY_OFF (R13, R25, R43, R44, R102). -/
def isStopped (m : Mode) : Bool := m == .dark || m == .flash || m == .supplyOff

/-- A member of the current target that inhibition keeps out of green (R59). -/
def keptOut (target : GroupSet) (g : GroupId) (r : Group) : Bool :=
  target[g] && r.inhibited && !(r.state == .green || r.state == .redAmber)

/-- The group set of the groups that satisfy a test. -/
def groupsWhere (p : GroupId → Bool) : GroupSet := Vector.ofFn p

/-- a mod b for a positive b, from 0 to b − 1 also when a is negative (chapter 00, Arithmetic). -/
def modPos (a : Int) (b : Nat) : Nat := (a % (b : Int)).toNat

/-- How far a cycle timer value lies past the preceding end point, round the cycle (R73). -/
def RunningStage.past (r : RunningStage) (cycle t : Nat) : Nat := modPos (t - r.precedingEnd) cycle

/-- Whether the running stage is due at a cycle timer value (R73). -/
def RunningStage.due (r : RunningStage) (cycle t : Nat) : Bool :=
  decide (modPos (r.endPoint - r.precedingEnd) cycle ≤ r.past cycle t)

/-- Whether group and letter are marked "not fitted" for a type (R1). -/
def notFitted (type : GroupType) (letter : Letter) : Bool :=
  match type, letter with
  | .vehicle, .X => true
  | .pedestrian, .A => true
  | .tram, .X => true
  | .unused, _ => true
  | _, _ => false

end Sys2Proof.Machine
end

