-- ==== Sys2Proof/Machine/CableUnit.lean ====
section
/-! DEFINITION. The Cable Test Unit's shared operations (R130 to R142): settling the unit state, the selection and
start of a test, the end of a test by completion or abort, and additions to the test queue. -/

namespace Sys2Proof.Machine

/-- Whether work is due with no test in flight: the queue is not empty, or a cyclic test is due and the test set holds
a fitted core (R130). -/
def CableUnit.workDue (u : CableUnit) (fitted : CoreId → Nat) : Bool :=
  !u.queue.isEmpty ||
  (u.cyclicRunning && u.intervalPassed && allCores.any fun c => u.testSet[c] && decide (0 < fitted c))

/-- The unit state that follows from the rest of the unit record (R130). -/
def CableUnit.stateOf (u : CableUnit) (fitted : CoreId → Nat) : UnitState :=
  if !u.enabled then .disabled
  else if u.flight.isSome then (if u.stopWaiting then .stopping else .testing)
  else if u.workDue fitted then .waiting
  else .idle

/-- The unit state is settled at the end of an event (R130). -/
def State.settleUnit (s : State) : State :=
  s.onCable fun u => { u with unitState := u.stateOf s.fitted }

/-- Each entry whose core is eligible has its seen eligible flag set (R137). -/
def markSeen (elig : CoreId → Bool) (queue : List QueueEntry) : List QueueEntry :=
  queue.map fun e => if elig e.core then { e with seenEligible := true } else e

/-- Every core, in the order of a cyclic search: the cores after the pointer in ascending order, core 64 followed by
core 1, ending with the pointer's own core; from core 1 when the pointer is 0 (R137). -/
def searchOrder (pointer : Nat) : List CoreId := allCores.drop pointer ++ allCores.take pointer

/-- The core and source a selection takes: the oldest queue entry whose core is eligible, else the first eligible core
of the test set when a cyclic test is due (R137). -/
def CableUnit.pick (u : CableUnit) (elig : CoreId → Bool) : Option (CoreId × TestSource) :=
  match u.queue.find? (fun e => elig e.core) with
  | some e => some (e.core, .queue)
  | none =>
    if u.cyclicRunning && u.intervalPassed then
      ((searchOrder u.pointer).find? fun c => u.testSet[c] && elig c).map fun c => (c, .cyclic)
    else none

/-- A test starts on a core: +50 V is applied, the first 200 ms phase timer starts, interval passed is cleared, and a
queue entry goes under test (R138). -/
def CableUnit.startTest (now : Clock) (core : CoreId) (source : TestSource) (u : CableUnit) : CableUnit :=
  { u with
    flight := some { core := core, source := source, phase := .positive, start := now, phaseStart := now,
                     positive := none }
    queue := match source with
      | .queue => u.queue.map fun e => if e.core = core then { e with underTest := true } else e
      | .cyclic => u.queue
    intervalPassed := false }

/-- Whether the 200 ms of the phase timer have run (R138). -/
def Flight.phaseOver (now : Clock) (f : Flight) : Bool := decide (200 ≤ elapsed now f.phaseStart)

/-- The event of the phase timer's expiry, at which the core's current is read (R138). -/
def Flight.phaseEnd (current : Int) (f : Flight) : Instr :=
  match f.phase with
  | .positive => .positivePhaseEnd current
  | .negative => .testCompletion current

/-- A selection at a selection point: made in IDLE and WAITING, that is with the unit enabled and no test in flight;
then the state is settled (R130, R137). `elig` says which cores are eligible at that moment. -/
def State.selectWith (elig : CoreId → Bool) (s : State) : State :=
  State.settleUnit <| s.onCable fun u =>
    if !u.enabled || u.flight.isSome then u
    else
      let u := { u with queue := markSeen elig u.queue }
      match u.pick elig with
      | some (core, source) => u.startTest s.nowMs core source
      | none => u

/-- A selection against the commands in force (R137). -/
def State.select (s : State) : State := s.selectWith s.eligible

/-- The end of a test restarts the interval: last test end becomes now, interval passed is cleared and the interval
timer starts; no test is in flight (R140, R141). -/
def CableUnit.restartInterval (now : Clock) (u : CableUnit) : CableUnit :=
  { u with lastTestEnd := now, intervalPassed := false, intervalTimer := true, flight := none }

/-- In STOPPING, cyclic running and stop waiting are cleared at the end of the test (R140, R141). -/
def CableUnit.finishStop (u : CableUnit) : CableUnit :=
  if u.stopWaiting then { u with cyclicRunning := false, stopWaiting := false } else u

/-- The cable record of an interrupted test (R141 effect 2). -/
def CableRecord.interrupt (now : Clock) (r : CableRecord) : CableRecord :=
  { r with cls := .interrupted, interrupted := saturate 255 (r.interrupted + 1), lastTest := now }

/-- What becomes of the queue entry of an interrupted queue test. -/
inductive AbortEntry where
  /-- It returns to the head of the queue with a new wait (R141 effect 3). -/
  | toHead
  /-- It leaves the queue, its core no longer being fitted (R136). -/
  | removed
  deriving DecidableEq, Repr

/-- An interrupted entry at the head of the queue: not under test, its wait starting now and its seen eligible flag
cleared (R141 effect 3). -/
def entryToHead (now : Clock) (core : CoreId) (queue : List QueueEntry) : List QueueEntry :=
  match queue.find? (fun e => e.core == core) with
  | some e =>
    { e with underTest := false, waitStart := now, seenEligible := false } :: queue.filter (fun x => !(x.core == core))
  | none => queue

/-- The abort of the test in flight: effects 1 to 5 of R141 and the first part of 6, before the selection. -/
def State.abortFlight (entry : AbortEntry) (f : Flight) (s : State) : State :=
  s.onCable fun u =>
    let u := { u with records := change u.records f.core (CableRecord.interrupt s.nowSec) }
    let u := match f.source, entry with
      | .queue, .toHead => { u with queue := entryToHead s.nowMs f.core u.queue }
      | .queue, .removed => { u with queue := u.queue.filter fun e => !(e.core == f.core) }
      | .cyclic, _ => u
    (CableUnit.finishStop u).restartInterval s.nowMs

/-- An energise notice for a core (R141): a test in flight on it is aborted and a selection is made among the cores
that `elig` gives, which leaves out every core about to be lit; any other notice does nothing. -/
def State.notice (elig : CoreId → Bool) (s : State) (c : CoreId) : State :=
  match s.cable.flight with
  | some f => if f.core = c then (s.abortFlight .toHead f).selectWith elig else s
  | none => s

/-- An entry is added at the tail of the queue, with its wait starting now (R134). -/
def CableUnit.add (now : Clock) (core : CoreId) (origin : QueueOrigin) (eligible : Bool) (u : CableUnit) : CableUnit :=
  { u with queue := u.queue ++ [{ core := core, origin := origin, waitStart := now, seenEligible := eligible,
                                  underTest := false }] }

/-- Whether a core is in the queue, under test or not (R134). -/
def CableUnit.queued (u : CableUnit) (c : CoreId) : Bool := u.queue.any fun e => e.core == c

/-- A core is added to the queue and a selection made (R134, R137). -/
def State.enqueue (c : CoreId) (origin : QueueOrigin) (s : State) : State :=
  (s.onCable (CableUnit.add s.nowMs c origin (s.eligible c))).select

/-- A declaration of the Lamp Proving Unit: the core is added, unless the unit is DISABLED, the core is queued, the
queue is full or the core is not fitted, when the addition is dropped (R136). -/
def State.declared (c : CoreId) (origin : QueueOrigin) (s : State) : State :=
  if !s.cable.enabled || s.cable.queued c || decide (8 ≤ s.cable.queue.length) || s.fitted c == 0 then s
  else s.enqueue c origin

/-- The Lamp Proving Unit tells of a WRITE_LAMP that changed a core's fitted count (R136, R137): a count of 0 aborts a
test in flight on the core and removes its queue entry (DEDUCED, log 20: a cyclic test too); then a selection. -/
def State.fittedChanged (c : CoreId) (s : State) : State :=
  let s := if s.fitted c = 0 then
      let s := match s.cable.flight with
        | some f => if f.core = c then s.abortFlight .removed f else s
        | none => s
      s.onCable fun u => { u with queue := u.queue.filter fun e => !(e.core == c) }
    else s
  s.select

/-- Truncated division by 2 (R139). -/
def half (x : Int) : Int := x.tdiv 2

/-- The class of a completed test (R139). -/
def testClass (positive negative : Int) : CableClass :=
  if positive = -2048 ∨ positive = 2047 ∨ negative = -2048 ∨ negative = 2047 then .saturated
  else if positive ≤ 0 ∨ 0 ≤ negative then .asymmetric
  else .valid

/-- A current as the front end delivers it: a whole number of µA, at the rail beyond either end (R138). -/
def railed (x : Int) : Int := clampInt (-2048) 2047 x

/-- The cable record of a completed test (R140 part 1). -/
def CableRecord.complete (now : Clock) (positive negative : Int) (r : CableRecord) : CableRecord :=
  let leakage := half (positive - negative)
  let cls := testClass positive negative
  { cls := cls, positive := positive, negative := negative, leakage := leakage, offset := half (positive + negative),
    worst := if cls = .valid then max r.worst leakage else r.worst,
    done := saturate 65535 (r.done + 1), interrupted := r.interrupted, lastTest := now }

/-- The source of a completed test: a queue entry leaves the queue; a cyclic test moves the pointer (R140 part 4). -/
def CableUnit.settleSource (f : Flight) (u : CableUnit) : CableUnit :=
  match f.source with
  | .queue => { u with queue := u.queue.filter fun e => !(e.core == f.core) }
  | .cyclic => { u with pointer := f.core.val + 1 }

/-- A completed test is taken (R139, R140). -/
def State.completeTest (f : Flight) (negative : Int) (s : State) : State :=
  let positive := f.positive.getD 0
  let cls := testClass positive negative
  let s := s.onCable fun u =>
    { u with records := change u.records f.core (CableRecord.complete s.nowSec positive negative) }
  let s := match cls with
    | .asymmetric => s.raise .cableAsymmetric (.core f.core)
    | .valid => (s.clear .cableAsymmetric (.core f.core)).clear .cableNoWindow (.core f.core)
    | _ => s
  let s := if cls = .valid ∨ cls = .asymmetric then
      s.send [.cableResult f.core cls (half (positive - negative)) (half (positive + negative))]
    else s
  let s := s.onCable fun u => ((u.settleSource f).finishStop).restartInterval s.nowMs
  s.select

/-- The expiry of an entry's 120 s wait (R142). -/
def State.waitExpired (e : QueueEntry) (s : State) : State :=
  if e.seenEligible then
    s.onCable fun u => { u with queue := u.queue.map fun x =>
      if x.core = e.core then { x with waitStart := s.nowMs, seenEligible := s.eligible e.core } else x }
  else
    let s := s.onCable fun u =>
      { u with queue := u.queue.filter (fun x => !(x.core == e.core)),
               records := change u.records e.core fun r => { r with cls := .noWindow } }
    (s.raise .cableNoWindow (.core e.core)).select

end Sys2Proof.Machine
end

