-- ==== Sys2Proof/Machine/Outputs.lean ====
section
/-! DEFINITION. What the engine drives: the 64 aspect outputs with their energise notices (R4 to R7), the contactor
line with its feedback check (R17, R18) and the dim relay line (R19). -/

namespace Sys2Proof.Machine

/-- Whether an event takes an aspect's command from OFF to STEADY or FLASHING (R7). -/
def energised (old new : AspectCommand) : Bool := old == .off && !(new == .off)

/-- The messages that follow a change of outputs: each change of command goes to the Cable Test Unit and each change of
level to the Lamp Proving Unit, in core order (R5, R99, R128). -/
def outputMessages (old new : Vector AspectOutput 64) : List Instr :=
  allCores.flatMap fun c =>
    (if old[c].command = new[c].command then [] else [Instr.aspectCommandChange c new[c].command]) ++
    (if old[c].lit = new[c].lit then [] else [Instr.aspectLevelChange c new[c].lit])

/-- The outputs the engine's state now calls for (R4, R5, R6). -/
def State.wantedOutputs (s : State) : Vector AspectOutput 64 :=
  Vector.ofFn fun c => { command := s.wantedCommand c, lit := levelOf s.engine.clock (s.wantedCommand c) }

/-- The energise notices of an event, sent before any output is switched: one for every core going from OFF to STEADY or
FLASHING, in core order. A core is eligible for the selection of an aborted test only when it was OFF and stays OFF (R7,
R141). -/
def State.notified (s : State) : State :=
  (allCores.filter fun c => energised s.engine.aspects[c].command s.wantedOutputs[c].command).foldl
    (State.notice fun c => s.eligible c && s.wantedOutputs[c].command == .off) s

/-- The engine brings its outputs up to date at the end of an event: the notices, then the outputs, then the changes are
told (R5 to R7). -/
def State.present (s : State) : State :=
  (s.notified.onEngine fun e => { e with aspects := s.wantedOutputs }).send
    (outputMessages s.engine.aspects s.wantedOutputs)

/-- Whether the contactor feedback agrees with the commanded line (R18). -/
def Engine.agrees (e : Engine) : Bool := e.contactorClosed == e.feedbackClosed

/-- A change of the line or the feedback (R18): a disagreement that begins starts the 500 ms timer; agreement that
returns cancels it and clears CONTACTOR. -/
def State.contactorChange (f : Engine → Engine) (s : State) : State :=
  let t := s.onEngine f
  if s.engine.agrees && !t.engine.agrees then t.onEngine fun e => { e with contactorTimer := some s.nowMs }
  else if !s.engine.agrees && t.engine.agrees then
    (t.onEngine fun e => { e with contactorTimer := none }).clear .contactor .none
  else t

/-- The lamp supply contactor line is set (R17). -/
def State.setContactor (closed : Bool) (s : State) : State :=
  s.contactorChange fun e => { e with contactorClosed := closed }

/-- The dim relay line is set; a change of it reaches the Lamp Proving Unit as an event (R19, R104). -/
def State.setDim (on : Bool) (s : State) : State :=
  if s.engine.dimOn = on then s
  else (s.onEngine fun e => { e with dimOn := on }).send [.dimChange on]

/-- The engine tells the Plan Sequencer, the Lamp Proving Unit and the Cable Test Unit of the new mode (R20). -/
def State.tellMode (s : State) : State :=
  s.send [.junctionModeNotice .sequencer s.engine.mode, .junctionModeNotice .lampUnit s.engine.mode,
          .junctionModeNotice .cableUnit s.engine.mode]

/-- The MODE entry of a change of mode (R20, R164). -/
def State.recordMode (s : State) : State :=
  s.record (.mode s.seq.inForce s.seq.cycleTimer s.engine.mode)

/-- The HOLD entry of an entry to HELD or of a cause change to PANEL (R31, R32, R164). -/
def State.recordHold (cause : HoldCause) (s : State) : State :=
  s.record (.hold s.seq.inForce s.seq.stageIndex s.seq.cycleTimer cause)

end Sys2Proof.Machine
end

