-- ==== Sys2Proof/Machine/Interstage.lean ====
section
/-! DEFINITION. The interstage (R49 to R56): beginning one, its completion with the sequencer's report (R71, R37, R88)
and the pending hold (R32), the next-stage slot, and red-loss inhibition (R57 to R60). No operation here brings the
outputs up to date; each event does so once, at its end. -/

namespace Sys2Proof.Machine

/-- HELD is entered with a cause (R31, R32): the budget port is kept for STEP_COUNT only (R30). -/
def State.enterHeld (cause : HoldCause) (port : BudgetPort) (s : State) : State :=
  let s := s.onEngine fun e =>
    { e with
      mode := .held
      hold := { cause := cause, entered := s.nowSec, pending := false, pendingCause := .none,
                budgetPort := if cause = .stepCount then port else .none } }
  s.tellMode.recordHold cause

/-! ## The sequencer's side of a completion -/

/-- The step budget is counted at a completion in RUN; the completion that takes it to 0 sends the engine a STEP_COUNT
hold carrying the budget port (R37). -/
def State.countBudget (s : State) : State :=
  if s.engine.mode = .run ∧ 0 < s.seq.budget then
    let t := s.onSeq fun q => { q with budget := q.budget - 1 }
    if t.seq.budget = 0 then t.send [.stepCountHold t.seq.budgetPort] else t
  else s

/-- A correction becomes NONE: what it held is kept for reading, and nothing of it remains to be applied (R87). -/
def Correction.drop (c : Correction) : Correction := { c with state := .none, remaining := 0 }

/-- The limit of the elastic stage (R88). -/
def correctionLimit (direction : Direction) (planned stageMin stageMax : Nat) : Nat :=
  match direction with
  | .shorten => planned - stageMin
  | .lengthen => stageMax - planned

/-- A STORED correction is made due at the beginning of the elastic stage (R88). -/
def Sequencer.correctionDue (q : Sequencer) : Sequencer :=
  if q.correction.state = .stored then
    let planned := modPos ((q.running.endPoint : Int) - q.cycleTimer) q.plan.cycle
    let k := min q.correction.amount (min (q.plan.cycle / 5)
      (correctionLimit q.correction.direction planned q.running.stageMin q.running.stageMax))
    if k = 0 then { q with correction := q.correction.drop }
    else { q with correction := { q.correction with state := .applying, applied := k, remaining := k,
                                                    planned := planned } }
  else q

/-- The sequencer takes a completion report (R71): the stage begins when the completed set is that of its latest
request; the step budget is counted in RUN either way. -/
def State.reportCompletion (set : GroupSet) (s : State) : State :=
  if set = s.seq.latest.set then
    let s := s.onSeq fun q =>
      { q with demands := setLatch q.demands q.running.index false, stageTimer := 0, state := .timing }
    let s := s.countBudget
    if s.seq.running.elastic then s.onSeq Sequencer.correctionDue else s
  else s.countBudget

/-! ## Beginning and completing -/

/-- A new interstage is begun, before its completion test (R50 parts 1 to 4, R59). -/
def Engine.beginInterstage (r : StageRequest) (e : Engine) : Engine :=
  { e with
    interstage :=
      { inFlight := true
        target := r.set
        leaving := groupsWhere fun g => e.groups[g].state == .green && !r.set[g]
        entering := groupsWhere fun g => r.set[g] && !(e.groups[g].state == .green) && !(e.groups[g].type == .unused)
        begunAt := e.clock
        tag := some r.tag }
    groups := Vector.ofFn fun g =>
      { e.groups[g] with withheld := r.set[g] && (e.groups[g].withheld || keptOut r.set g e.groups[g]) } }

/-- The completion test: an interstage is in flight and every group of E is in GREEN or withheld (R53). -/
def Engine.completes (e : Engine) : Bool :=
  e.interstage.inFlight &&
  allGroups.all fun g => !e.interstage.entering[g] || e.groups[g].state == .green || e.groups[g].withheld

/-- The groups of E withheld now (R53). -/
def Engine.withheldEntering (e : Engine) : GroupSet :=
  groupsWhere fun g => e.interstage.entering[g] && e.groups[g].withheld

/-- Parts 1 to 4 of a completion (R53): in flight is cleared, the sequencer and then the history are told, and a hold
pending in RUN enters HELD. -/
def State.complete (s : State) : State :=
  let i := s.engine.interstage
  let duration := elapsed s.engine.clock i.begunAt
  let withheld := s.engine.withheldEntering
  let s := s.onEngine fun e => { e with interstage.inFlight := false }
  let s := s.reportCompletion i.target
  let s := match i.tag with
    | some tag => s.record (.change tag duration withheld)
    | none => s
  if s.engine.mode = .run ∧ s.engine.hold.pending = true then
    s.enterHeld s.engine.hold.pendingCause s.engine.hold.budgetPort
  else s

/-- The completion test, and the completion when it holds, without taking up the slot (R53). -/
def State.testCompletionOnce (s : State) : State := if s.engine.completes then s.complete else s

/-- The completion test and the completion (R53). In RUN the slot's request is then begun, the slot being emptied first
(R56); that interstage may complete in the same event, with the slot now empty. -/
def State.testCompletion (s : State) : State :=
  if s.engine.completes then
    let s := s.complete
    match s.engine.mode, s.engine.slot with
    | .run, some r =>
      (s.onEngine fun e => Engine.beginInterstage r { e with slot := none }).testCompletionOnce
    | _, _ => s
  else s

/-- A stage request is begun as a new interstage (R50). -/
def State.beginRequest (r : StageRequest) (s : State) : State :=
  (s.onEngine (Engine.beginInterstage r)).testCompletion

/-- The engine takes a stage request (R50, R55): dropped outside RUN and HELD, taken by the slot while an interstage is
in flight, and begun otherwise. -/
def State.takeRequest (r : StageRequest) (s : State) : State :=
  if !isRunning s.engine.mode then s
  else if s.engine.interstage.inFlight then
    s.onEngine fun e => { e with slot := if r.set = e.interstage.target then none else some r }
  else s.beginRequest r

/-! ## Red-loss inhibition -/

/-- A newly inhibited group in RUN or HELD is acted on by its state (R58, R10). Minimum red then counts from the return to
RED, or from the ending of the green, which `cutShort` keeps (R60). -/
def Group.inhibitNow (now : Clock) (g : Group) : Group :=
  match g.state with
  | .redAmber => { g with state := .red, timeInState := 0, cutShort := false }
  | .green =>
    { g with state := if g.type = .pedestrian then .clearance else .amber, timeInState := 0, lastGreenEnd := now,
             cutShort := true }
  | _ => g

/-- The inhibited flag of every group is recomputed, newly inhibited groups are acted on in RUN and HELD, and the
withheld flags are brought up to date (R57, R58, R59). -/
def State.recomputeInhibition (s : State) : State :=
  s.onEngine fun e =>
    { e with groups := Vector.ofFn fun g =>
      let old := e.groups[g]
      let now := s.inhibitedNow g
      let acted := if now && !old.inhibited && isRunning e.mode then old.inhibitNow e.clock else old
      let r := { acted with inhibited := now }
      { r with withheld := r.withheld || keptOut e.interstage.target g r } }

/-- Whether an event set the withheld flag of a group of E (R53). -/
def newlyWithheld (old new : Engine) : Bool :=
  allGroups.any fun g => new.interstage.entering[g] && new.groups[g].withheld && !old.groups[g].withheld

/-- The recomputation with the completion test that a newly withheld group of E calls for (R53, R57). -/
def State.inhibitionEvent (s : State) : State :=
  let t := s.recomputeInhibition
  if newlyWithheld s.engine t.engine then t.testCompletion else t

end Sys2Proof.Machine
end

