-- ==== Sys2Proof/Machine/Modes.lean ====
section
/-! DEFINITION. The mode machine (R11, R20 to R38): mode entries, entry to FLASH or SUPPLY_OFF, START and its phases,
holds and their release, and the sequencer's issue of a stage request (R70). -/

namespace Sys2Proof.Machine

/-! ## Mode entries -/

/-- The state a mode entry gives a group of a type, for the entries that darken or flash (R11). -/
def flashState (type : GroupType) : GroupState :=
  match type with
  | .vehicle | .tram => .flashing
  | .pedestrian | .unused => .dark

/-- The state the all-red phase gives a group of a type (R11). -/
def allRedState (type : GroupType) : GroupState :=
  match type with
  | .unused => .dark
  | _ => .red

/-- A group set to a state directly: when the state changes its time in state becomes 0 (R11), and minimum red counts from
there (R24). -/
def Group.setTo (state : GroupState) (g : Group) : Group :=
  if g.state = state then g else { g with state := state, timeInState := 0, cutShort := false }

/-- Entry to FLASH or SUPPLY_OFF: a group in GREEN or CLEARANCE has its last green end set to now (R11, R28). -/
def Group.safeEntry (now : Clock) (flash : Bool) (g : Group) : Group :=
  let g' := if g.state = .green ∨ g.state = .clearance then { g with lastGreenEnd := now } else g
  g'.setTo (if flash then flashState g.type else .dark)

/-- The sequencer at an entry to FLASH or SUPPLY_OFF (R28 parts 5 and 6, R67, R76, R92): budget, extension, correction
and deferral are discarded, the cycle timer is 0, the state STOPPED and the watch INACTIVE, and a pending plan becomes
the plan in force. -/
def Sequencer.safeEntry (q : Sequencer) : Sequencer :=
  { q with
    state := .stopped
    budget := 0
    budgetPort := .none
    extensionEnd := 0
    deferred := false
    correction := q.correction.drop
    cycleTimer := 0
    sync := { q.sync with watch := .inactive }
    inForce := q.pendingPlan.getD q.inForce
    pendingPlan := none }

/-- The entry to FLASH or SUPPLY_OFF, whatever its cause (R28). -/
def State.safeEntry (flash : Bool) (s : State) : State :=
  let s := s.onEngine fun e =>
    { e with
      groups := mapBank (Group.safeEntry e.clock flash) e.groups
      mode := if flash then .flash else .supplyOff
      startPhase := .none
      interstage := { e.interstage with inFlight := false, target := noGroups }
      slot := none
      hold := HoldRecord.empty }
  let s := s.onSeq Sequencer.safeEntry
  let s := (s.setContactor flash).setDim false
  s.tellMode.recordMode.present

/-- FLASH is entered from START, RUN and HELD; the other modes are left as they are (R26, R29). -/
def State.enterFlash (s : State) : State :=
  match s.engine.mode with
  | .start | .run | .held => s.safeEntry true
  | .dark | .flash | .supplyOff => s

/-- SUPPLY_OFF is entered from every other mode that `fromDark` allows (R27, R29). -/
def State.enterSupplyOff (fromDark : Bool) (s : State) : State :=
  match s.engine.mode with
  | .start | .run | .held | .flash => s.safeEntry false
  | .dark => if fromDark then s.safeEntry false else s
  | .supplyOff => s

/-! ## Issuing a stage request -/

/-- The running stage is formed and the latest request recorded (R70 parts 1, 2 and 4): the stage timer and extension
end are 0, the deferred flag is clear, and the state is AWAITING. -/
def Sequencer.issue (index : Nat) (q : Sequencer) : Sequencer :=
  let r := q.form index
  { q with
    stageIndex := index
    running := r
    extensionEnd := 0
    deferred := false
    stageTimer := 0
    latest := { set := r.set,
                tag := some { plan := q.inForce, stage := index, substituted := r.substituted, cycleAt := q.cycleTimer } }
    state := .awaiting }

/-- The request that the sequencer's latest issue sends the engine (R70 part 3). -/
def Sequencer.request (q : Sequencer) : StageRequest where
  set := q.latest.set
  tag := q.latest.tag.getD { plan := q.inForce, stage := q.stageIndex, substituted := false, cycleAt := q.cycleTimer }

/-- A stage request is issued and sent to the engine as an event of its own (R68, R70). -/
def State.issueRequest (index : Nat) (s : State) : State :=
  let s := s.onSeq (Sequencer.issue index)
  s.send [.stageRequest s.seq.request]

/-! ## Holds -/

/-- A hold is pending with a cause, its budget port being kept for STEP_COUNT only (R30, R31). -/
def HoldRecord.pend (cause : HoldCause) (port : BudgetPort) (h : HoldRecord) : HoldRecord :=
  { h with
    pending := true
    pendingCause := cause
    budgetPort := if cause = .stepCount then port else .none }

/-- The engine takes a hold with a cause (R31); `port` is the budget port of a STEP_COUNT hold. -/
def State.takeHold (cause : HoldCause) (port : BudgetPort) (s : State) : State :=
  match s.engine.mode with
  | .run =>
    if s.engine.interstage.inFlight then
      if s.engine.hold.pending = false then
        s.onEngine fun e => { e with hold := e.hold.pend cause port }
      else if cause = .panel then
        s.onEngine fun e => { e with hold := { e.hold with pendingCause := .panel, budgetPort := .none } }
      else s
    else s.enterHeld cause port
  | .held =>
    if cause = .panel then
      (s.onEngine fun e => { e with hold := { e.hold with cause := .panel, budgetPort := .none } }).recordHold .panel
    else s
  | .dark | .start | .flash | .supplyOff => s

/-- HELD is left for RUN (R34): the hold record is emptied, a MODE entry is made, and a request kept in the slot is
begun (R32, R56). -/
def State.leaveHeld (s : State) : State :=
  let s := s.onEngine fun e => { e with mode := .run, hold := HoldRecord.empty }
  let s := s.tellMode.recordMode
  match s.engine.interstage.inFlight, s.engine.slot with
  | false, some r => (s.onEngine fun e => { e with slot := none }).beginRequest r
  | _, _ => s

/-- Whether a port may release a hold of this cause and budget port (R34). -/
def mayRelease (p : Port) (cause : HoldCause) (budgetPort : BudgetPort) : Bool :=
  match p, cause with
  | .plan, .planRequest => true
  | .plan, .stepCount => budgetPort == .plan
  | .maintenance, .planRequest => true
  | .maintenance, .maintRequest => true
  | .maintenance, .qualifier => true
  | .maintenance, .stepCount => true
  | _, _ => false

/-- The index a STEP without an index names: the next stage in list order, stage n followed by stage 1 (R35). -/
def nextIndex (count index : Nat) : Nat := if count ≤ index then 1 else index + 1

/-- A STEP (R35): the status when it is refused, or the state after it. The request is taken by the engine at once. -/
def State.takeStep (index : Option Nat) (s : State) : Except Status State :=
  if s.engine.mode ≠ .held then .error .wrongMode
  else if s.engine.interstage.inFlight = true then .error .busy
  else if (index.map fun k => within 1 s.seq.plan.count k) = some false then .error .range
  else
    let k := index.getD (nextIndex s.seq.plan.count s.seq.stageIndex)
    let s := s.onEngine fun e => { e with slot := none }
    let s := s.onSeq (Sequencer.issue k)
    .ok (s.takeRequest s.seq.request).present

/-! ## START -/

/-- The all-red phase begins: every typed group goes to RED and every group has its last green end set to now (R11,
R23, R24). -/
def Engine.beginAllRed (e : Engine) : Engine :=
  { e with
    startPhase := .allRedPhase
    phaseTime := 0
    groups := mapBank (fun g => { g.setTo (allRedState g.type) with lastGreenEnd := e.clock }) e.groups }

/-- The flash phase begins (R11, R23). -/
def Engine.beginFlashPhase (e : Engine) : Engine :=
  { e with
    startPhase := .flashPhase
    phaseTime := 0
    groups := mapBank (fun g => g.setTo (flashState g.type)) e.groups }

/-- Whether the flash phase has run its time (R24). -/
def Engine.flashPhaseOver (e : Engine) : Bool :=
  e.mode == .start && e.startPhase == .flashPhase && decide (e.startFlash ≤ e.phaseTime)

/-- Whether the all-red phase has run its time (R24). -/
def Engine.allRedPhaseOver (e : Engine) : Bool :=
  e.mode == .start && e.startPhase == .allRedPhase && decide (e.allRed ≤ e.phaseTime)

/-- The sequencer at the entry to RUN (R24, R67, R92): the cycle timer is 0, the loss watch runs when the plan in force
has sync enabled, and the running stage is formed from stage 1. -/
def Sequencer.beginRun (clock : Clock) (q : Sequencer) : Sequencer :=
  let q := { q with cycleTimer := 0, stageIndex := 1 }
  if q.plan.sync then { q with sync := { q.sync with watch := .running, watchStart := clock } } else q

/-- The end of the all-red phase (R24): the mode becomes RUN, the dim line takes the plan's dim flag, stage 1 is
requested, and a HAND input that is on takes a hold with cause PANEL in the same event (R38). -/
def State.beginRun (s : State) : State :=
  let s := s.onEngine fun e => { e with startPhase := .none, mode := .run }
  let s := s.setDim s.seq.plan.dim
  let s := s.onSeq (Sequencer.beginRun s.engine.clock)
  let s := s.tellMode.recordMode
  let s := s.issueRequest 1
  if s.engine.hand.debounced then s.takeHold .panel .none else s

/-- An accepted RESTART (R23): the running state of the junction is cleared and START begins. -/
def State.restartJunction (s : State) : State :=
  let s := s.onSeq fun q =>
    { q with
      state := .stopped
      cycleTimer := 0
      correction := q.correction.drop
      budget := 0
      budgetPort := .none
      demands := noStages
      extensionEnd := 0
      deferred := false
      latest := { set := noGroups, tag := none }
      sync := { q.sync with watch := .inactive } }
  let s := s.onConflicts fun t => { t with stagedRows := [], stagedParts := 0 }
  let s := s.onEngine fun e =>
    { e with
      mode := .start
      hold := HoldRecord.empty
      slot := none
      interstage := { e.interstage with inFlight := false, target := noGroups }
      groups := mapBank (fun g => { g with withheld := false }) e.groups }
  let s := s.clear .forced .none
  let s := s.onEngine fun e => if e.startFlash = 0 then e.beginAllRed else e.beginFlashPhase
  let s := (s.setContactor true).setDim false
  s.tellMode.recordMode.present

end Sys2Proof.Machine
end

