-- ==== Sys2Proof/Machine/Sequencer.lean ====
section
/-! DEFINITION. The Plan Sequencer's tick (R68, R69, R74 to R76, R89 to R92), the measurement of a counted pulse (R85,
R86), and the writing of plans (R63, R64). -/

namespace Sys2Proof.Machine

/-! ## The tick -/

/-- A correction after one applied decisecond; NONE when nothing remains (R89, R90). -/
def Correction.advance (c : Correction) : Correction :=
  if c.remaining ≤ 1 then c.drop else { c with remaining := c.remaining - 1 }

/-- Part 1 of the tick (R68, R89 to R91): in RUN the cycle timer takes its step of 1 ds, 2 ds while shortening and 0 ds
while lengthening; in HELD it is frozen; in every other mode it is 0. -/
def Sequencer.stepTimer (mode : Mode) (q : Sequencer) : Sequencer :=
  match mode with
  | .run =>
    if q.correction.state = .applying then
      { q with
        cycleTimer := match q.correction.direction with
          | .shorten => q.cycleTimer + 2
          | .lengthen => q.cycleTimer
        correction := q.correction.advance }
    else { q with cycleTimer := q.cycleTimer + 1 }
  | .held => q
  | .dark | .start | .flash | .supplyOff => { q with cycleTimer := 0 }

/-- Part 2 of the tick: in RUN with the state TIMING the stage timer is raised (R68, R72). -/
def Sequencer.stepStage (mode : Mode) (q : Sequencer) : Sequencer :=
  if mode = .run ∧ q.state = .timing then { q with stageTimer := saturate 65535 (q.stageTimer + 1) } else q

/-- Whether the cycle timer has reached the cycle time (R68 part 3). A plan with cycle time 0 never runs. -/
def Sequencer.wrapped (q : Sequencer) : Bool := decide (0 < q.plan.cycle) && decide (q.plan.cycle ≤ q.cycleTimer)

/-- A pending plan becomes the plan in force at a wrap (R69 parts 1 and 3, R91, R92). -/
def Sequencer.takePlan (p : PlanId) (clock : Clock) (q : Sequencer) : Sequencer :=
  let before := q.plan.sync
  let q := { q with inForce := p, pendingPlan := none, stageIndex := 1, extensionEnd := 0, deferred := false,
                    correction := q.correction.drop }
  if !q.plan.sync then { q with sync := { q.sync with watch := .inactive } }
  else if !before then { q with sync := { q.sync with watch := .running, watchStart := clock } }
  else q

/-- A wrap with a pending plan (R69). -/
def State.changePlan (p : PlanId) (s : State) : State :=
  let s := s.onSeq (Sequencer.takePlan p s.engine.clock)
  let s := s.setDim s.seq.plan.dim
  let first := s.seq.form 1
  let s := if first.set = s.seq.latest.set then s.onSeq fun q => { q with running := first } else s.issueRequest 1
  s.record (.plan s.seq.inForce s.seq.cycleTimer)

/-- Part 3 of the tick: the wrap (R68, R69). -/
def State.wrap (s : State) : State :=
  if s.seq.wrapped then
    let s := s.onSeq fun q => { q with cycleTimer := q.cycleTimer - q.plan.cycle }
    match s.seq.pendingPlan with
    | some p => s.changePlan p
    | none => s
  else s

/-- Whether the cycle timer has come round to the running stage's preceding end point since it stood at `before`
(R73, R76). -/
def Sequencer.roundAgain (before : Nat) (q : Sequencer) : Bool :=
  decide (q.running.past q.plan.cycle q.cycleTimer < q.running.past q.plan.cycle before)

/-- Part 4 of the tick: the deferred flag is cleared in the tick in which the cycle timer, at `before` as the tick began,
comes round to the preceding end point (R76). So a stage deferred by its maximum before it was due keeps the flag until
then too (DEDUCED, log 31), and HELD, where the cycle timer is frozen, keeps it (R72). -/
def Sequencer.testDeferral (before : Nat) (q : Sequencer) : Sequencer :=
  if q.deferred && q.roundAgain before then { q with deferred := false } else q

/-- Whether the running stage ends (R74). -/
def Sequencer.stageEnds (q : Sequencer) : Bool :=
  !q.deferred &&
  (decide (q.running.stageMax ≤ q.stageTimer) ||
   (q.running.due q.plan.cycle q.cycleTimer && decide (q.running.stageMin ≤ q.stageTimer) &&
    decide (q.extensionEnd ≤ q.stageTimer)))

/-- The stages that follow an index in list order, up to but not including it (R75). -/
def followers (count index : Nat) : List Nat :=
  (List.range' (index + 1) (count - index)) ++ List.range' 1 (index - 1)

/-- Whether a stage is skipped: demand-dependent, after any substitution, with no demand latched (R75). -/
def Sequencer.skips (q : Sequencer) (index : Nat) : Bool := (q.form index).demandDependent && !q.latched index

/-- The next stage is chosen (R75): each stage skipped is recorded; the first that is not skipped is requested; when
every stage is skipped the running stage is deferred (R76). -/
def State.chooseNext (ended : Nat) : List Nat → State → State
  | [], s => s.onSeq fun q => { q with deferred := true }
  | k :: rest, s =>
    if s.seq.skips k then State.chooseNext ended rest (s.record (.skip s.seq.inForce ended k s.seq.cycleTimer))
    else s.issueRequest k

/-- Part 5 of the tick: in RUN with the state TIMING, the ending of the running stage is tested (R68, R74). -/
def State.testEnding (s : State) : State :=
  if s.engine.mode = .run ∧ s.seq.state = .timing ∧ s.seq.stageEnds = true then
    s.chooseNext s.seq.stageIndex (followers s.seq.plan.count s.seq.stageIndex)
  else s

/-- Whether the loss watch has run out: RUNNING, with 3 × C elapsed since its start (R92). -/
def State.watchOver (s : State) : Bool :=
  s.seq.sync.watch == .running && decide (3 * s.seq.plan.cycle ≤ elapsed s.engine.clock s.seq.sync.watchStart)

/-- The watch becomes EXPIRED and SYNC_LOST is raised (R92). -/
def State.expireWatch (s : State) : State :=
  (s.onSeq fun q => { q with sync := { q.sync with watch := .expired } }).raise .syncLost .none

/-- One sequencer tick (R68), with the comparison of the loss watch (R92) made last, against the plan in force as the
tick leaves it (DESIGN CHOICE, log 17). -/
def State.tick (s : State) : State :=
  let before := s.seq.cycleTimer
  let s := s.onSeq (Sequencer.stepTimer s.engine.mode)
  let s := s.onSeq (Sequencer.stepStage s.engine.mode)
  let s := s.wrap
  let s := s.onSeq (Sequencer.testDeferral before)
  let s := s.testEnding
  let s := if s.watchOver then s.expireWatch else s
  s.present

/-! ## Synchronisation -/

/-- The signed error e of a measured pulse, in (−C/2, C/2] (R85). -/
def syncError (offset cycle t : Nat) : Int :=
  let e := modPos ((offset : Int) - t) cycle
  if cycle < 2 * e then (e : Int) - cycle else e

/-- The correction record after a measured pulse (R86, R87): NONE within 2 ds, else STORED with the error's direction and
magnitude; what an earlier correction fixed is no longer kept once one is stored. -/
def Correction.measured (e : Int) (c : Correction) : Correction :=
  if e.natAbs ≤ 2 then c.drop
  else { state := .stored, direction := if 0 < e then .shorten else .lengthen, amount := e.natAbs, applied := 0,
         remaining := 0, planned := 0 }

/-- A measured pulse (R85, R86, R92). -/
def Sequencer.measure (clock : Clock) (q : Sequencer) : Sequencer :=
  let e := syncError q.plan.offset q.plan.cycle q.cycleTimer
  { q with
    correction := q.correction.measured e
    sync := { q.sync with
      lastCycleTimer := q.cycleTimer
      lastPlan := some q.inForce
      lastError := e
      inStep := decide (e.natAbs ≤ 2)
      watch := .running
      watchStart := clock } }

/-- A counted pulse (R85, R93): SYNC_LOST is cleared, last pulse at is now, and in RUN or HELD with sync enabled the
pulse is measured. -/
def State.pulse (s : State) : State :=
  let s := s.clear .syncLost .none
  let s := s.onSeq fun q => { q with sync := { q.sync with lastPulse := some s.engine.clock } }
  if isRunning s.engine.mode && s.seq.plan.sync then s.onSeq (Sequencer.measure s.engine.clock) else s

/-! ## Writing plans -/

/-- A stage record of a request, none when a flag byte is neither clear nor set (R61, R172). -/
def StageArgs.stage (a : StageArgs) : Option Stage := do
  let d ← flagArg a.demandDependent
  let e ← flagArg a.elastic
  return { set := a.set, endPoint := a.endPoint, stageMin := a.stageMin, stageMax := a.stageMax, demandDependent := d,
           elastic := e }

/-- Whether a stage's numbers lie in the ranges of R61 for a cycle time. -/
def Stage.inRange (cycle : Nat) (st : Stage) : Bool :=
  decide (st.endPoint < cycle) && decide (st.stageMin ≤ 600) && decide (st.stageMin ≤ st.stageMax) &&
  decide (st.stageMax ≤ 1200)

/-- Whether end points are strictly increasing along a list of stages (R61). -/
def increasing : List Stage → Bool
  | a :: b :: rest => decide (a.endPoint < b.endPoint) && increasing (b :: rest)
  | _ => true

/-- Whether a plan's own fields and its stages meet the ranges of R61 (R64 check 1). -/
def planInRange (cycle offset : Nat) (stages : List Stage) : Bool :=
  within 300 2400 cycle && decide (offset < cycle) && within 2 12 stages.length &&
  stages.all (Stage.inRange cycle) && increasing stages &&
  ((stages.filter fun st => st.elastic).length == 1) && stages.all fun st => !(st.elastic && st.demandDependent)

/-- Twelve stage records from a list, those past its end being 0 (R172). -/
def stageBank (stages : List Stage) : Vector Stage 12 := Vector.ofFn fun k => stages.getD k.val Stage.zero

/-- The whole plan a WRITE_PLAN brings, none when a field is outside its range (R64 check 1). -/
def wholePlan (cycle offset sync dim count : Nat) (stages : List StageArgs) : Option Plan := do
  let sy ← flagArg sync
  let di ← flagArg dim
  let st ← stages.mapM StageArgs.stage
  if st.length = count ∧ planInRange cycle offset st = true then
    return { cycle := cycle, offset := offset, sync := sy, dim := di, count := count, stages := stageBank st,
             validity := .valid }
  else none

/-- A WRITE_PLAN completes (R64): the staging record is emptied; a field out of range is refused with RANGE and a stage
holding a conflicting pair with CONFLICT; else the plan record is replaced and is VALID. -/
def State.completePlan (p : PlanId) (cycle offset sync dim count : Nat) (stages : List StageArgs) (s : State) :
    State × Answer :=
  let s := s.onSeq fun q => { q with staging := none }
  match wholePlan cycle offset sync dim count stages with
  | none => refuse .range s
  | some plan =>
    if stages.all fun st => s.conflictFree st.set then
      okay (s.onSeq fun q => { q with plans := put q.plans p plan })
    else refuse .conflict s

end Sys2Proof.Machine
end

