-- ==== Sys2Proof/Machine/GroupStep.lean ====
section
/-! DEFINITION. The decisecond step (R12): the endings and starts of the groups (R8 to R10, R51, R52), the completion
test (R53), the start phases (R24), and the revalidation that follows a change of conflicts (R47). -/

namespace Sys2Proof.Machine

/-- A group enters GREEN: green start is now and the withheld flag is cleared (R8 to R10, R59). -/
def Group.enterGreen (now : Clock) (g : Group) : Group :=
  { g with state := .green, timeInState := 0, greenStart := now, withheld := false, cutShort := false }

/-- A group's green is ended by the interstage: AMBER, or CLEARANCE for PEDESTRIAN, with last green end now (R10, R51). -/
def Group.endGreen (now : Clock) (g : Group) : Group :=
  { g with state := if g.type = .pedestrian then .clearance else .amber, timeInState := 0, lastGreenEnd := now,
           cutShort := false }

/-- A group returns to RED. -/
def Group.enterRed (g : Group) : Group := { g with state := .red, timeInState := 0 }

/-- The ending transition of a group, when one is due (R12 part 3): GREEN outside the current target whose minimum green
has run (R51), AMBER and CLEARANCE at the end of their times (R8 to R10). -/
def Group.ending3 (now : Clock) (inTarget : Bool) (g : Group) : Group :=
  match g.state with
  | .green => if !inTarget && decide (g.minGreen ≤ elapsed now g.greenStart) then g.endGreen now else g
  | .amber => if g.amber ≤ g.timeInState then g.enterRed else g
  | .clearance => if g.clearance ≤ g.timeInState then g.enterRed else g
  | _ => g

/-- Whether a group's minimum red has run: by its time in state (R52), or, after an ending of its green by inhibition, since
that ending (R60, whose words for this group are taken over R52's: DEDUCED, log 30). -/
def Group.minRedRun (now : Clock) (g : Group) : Bool :=
  decide (g.minRed ≤ g.timeInState) || (g.cutShort && decide (g.minRed ≤ elapsed now g.lastGreenEnd))

/-- The start conditions of R52 for a group in RED: not inhibited, minimum red run (R60), and every conflicting group in RED
with its intergreen less the red-amber time elapsed. Minimum red is judged by the same test for a group in another state,
whose result only READ_INTERSTAGE can show (DEDUCED, log 30). -/
def State.startTest (s : State) (j : GroupId) : StartTest where
  notInhibited := !s.engine.groups[j].inhibited
  minRedRun := s.engine.groups[j].minRedRun s.engine.clock
  intergreensRun := allGroups.all fun i => !s.conflict i j ||
    (s.engine.groups[i].state == .red &&
     decide (s.conflicts.ig i j ≤ elapsed s.engine.clock s.engine.groups[i].lastGreenEnd + s.engine.groups[j].redAmber))

/-- The start conditions of every group as the states stand (R52, R54). -/
def groupTests (s : State) : Vector StartTest 16 := Vector.ofFn s.startTest

/-- Whether every start condition holds (R52). -/
def StartTest.holds (t : StartTest) : Bool := t.notInhibited && t.minRedRun && t.intergreensRun

/-- A group begins its start: VEHICLE to RED_AMBER, PEDESTRIAN and TRAM to GREEN; its withheld flag is cleared (R52,
R59). -/
def Group.beginStart (now : Clock) (g : Group) : Group :=
  match g.type with
  | .vehicle => { g with state := .redAmber, timeInState := 0, withheld := false, cutShort := false }
  | _ => g.enterGreen now

/-- The starting transition of one group, when one is due, against the states as they stand (R12 part 4, R52); the
start conditions are kept for READ_INTERSTAGE (R54). For a group in RED_AMBER at the step, which READ_INTERSTAGE shows when
inhibition returns it to RED before the next step, the minimum red kept is judged by its time in RED_AMBER (DEDUCED, log
30). -/
def State.startGroup (s : State) (j : GroupId) : State :=
  let t := s.startTest j
  s.onEngine fun e =>
    let g := e.groups[j]
    let g' := match g.state with
      | .red => if e.interstage.target[j] && t.holds then g.beginStart e.clock else g
      | .redAmber => if g.redAmber ≤ g.timeInState then g.enterGreen e.clock else g
      | _ => g
    { e with groups := put e.groups j g', startTests := put e.startTests j t }

/-- How many ms are left to the next 100 ms boundary (R3). -/
def State.toBoundary (s : State) : Nat := 100 - s.uptimeMs % 100

/-- Parts 1 and 2 of the step: the clock advances by 1 and every time in state by 1 ds (R12); the part's own time, the
store's with it, moves on to the next 100 ms boundary (R3, R176). -/
def State.advanceClock (s : State) : State :=
  let s := s.onEngine fun e =>
    { e with
      clock := e.clock + 1#32
      groups := mapBank (fun g => { g with timeInState := saturate 65535 (g.timeInState + 1) }) e.groups }
  { s with uptimeMs := (s.uptimeMs / 100 + 1) * 100, store := s.store.pass s.toBoundary }

/-- Part 3 of the step in RUN and HELD: every ending transition that is due (R12, R51). -/
def State.takeEndings (s : State) : State :=
  if isRunning s.engine.mode then
    s.onEngine fun e =>
      { e with groups := Vector.ofFn fun g => e.groups[g].ending3 e.clock e.interstage.target[g] }
  else s

/-- Part 4 of the step in RUN and HELD: the groups in ascending number (R12, R52). In the other modes no group starts,
and the start conditions are only kept (R54). -/
def State.takeStarts (s : State) : State :=
  if isRunning s.engine.mode then allGroups.foldl State.startGroup s
  else s.onEngine fun e => { e with startTests := groupTests s }

/-- The start phases, after the five parts of a step in START (R24). -/
def State.timePhases (s : State) : State :=
  if s.engine.mode = .start then
    let s := s.onEngine fun e => { e with phaseTime := e.phaseTime + 1 }
    if s.engine.flashPhaseOver then s.onEngine Engine.beginAllRed
    else if s.engine.allRedPhaseOver then s.beginRun
    else s
  else s

/-- One decisecond step (R12): the clock and times, the endings, the starts, the completion test (R53), the start phases
(R24), and the outputs; then the sequencer is sent its tick, an event of its own (R68). -/
def State.decisecond (s : State) : State :=
  let s := s.advanceClock.takeEndings.takeStarts.testCompletion
  let s := s.timePhases
  s.present.send [.sequencerTick]

/-- The timed transition of one group, when its time in state has reached it (R8 to R10, R12). -/
def Group.timedExit (now : Clock) (g : Group) : Group :=
  match g.state with
  | .redAmber => if g.redAmber ≤ g.timeInState then g.enterGreen now else g
  | .amber => if g.amber ≤ g.timeInState then g.enterRed else g
  | .clearance => if g.clearance ≤ g.timeInState then g.enterRed else g
  | _ => g

/-- A group's timed transition in RUN or HELD (R12). -/
def State.timedExit (j : GroupId) (s : State) : State :=
  if isRunning s.engine.mode then
    (s.onEngine fun e => { e with groups := change e.groups j (Group.timedExit e.clock) }).present
  else s

/-! ## Revalidation -/

/-- Whether every stage of a plan is free of conflicting pairs (R47). -/
def State.planConflictFree (s : State) (p : Plan) : Bool :=
  (List.range p.count).all fun k => s.conflictFree (p.stage (k + 1)).set

/-- The plan numbers that a revalidation makes INVALID: VALID plans with a conflicting pair in a stage (R47). -/
def State.plansBroken (s : State) : List PlanId :=
  (List.finRange 8).filter fun p =>
    s.seq.plans[p].validity == .valid && !s.planConflictFree s.seq.plans[p]

/-- The entries that a revalidation disables: enabled ones with a conflicting pair in the replacement set (R47). -/
def State.entriesBroken (s : State) : List EntryId :=
  (List.finRange 2).filter fun e => s.seq.substs[e].enabled && !s.conflictFree s.seq.substs[e].set

/-- The revalidation of plans and substitution entries, and the recomputation of inhibition (R47). -/
def State.revalidate (s : State) : State :=
  let plans := s.plansBroken
  let entries := s.entriesBroken
  State.recomputeInhibition <| s.onSeq fun q =>
    { q with
      plans := Vector.ofFn fun p =>
        if plans.contains p then { q.plans[p] with validity := .invalid } else q.plans[p]
      substs := Vector.ofFn fun e =>
        if entries.contains e then { q.substs[e] with enabled := false } else q.substs[e] }

end Sys2Proof.Machine
end

