-- ==== Sys2Proof/Machine/LampUnit.lean ====
section
/-! DEFINITION. The Lamp Proving Unit: reading classes (R105), the count arithmetic and the other work of one aspect at a
frame completion (R112 to R125), slots and latching (R97 to R101), and the frame completion (R107, R108). -/

namespace Sys2Proof.Machine

/-! ## Classes -/

/-- Whether a scan mode leaves an aspect's row out (R101). -/
def rowLeftOut (mode : ScanMode) (letter : Letter) : Bool := mode == .threeRow && letter == .X

/-- The slots of a frame (R101). -/
def slotsOf (mode : ScanMode) : Nat :=
  match mode with
  | .threeRow => 3
  | .fourRow => 4

/-- The row that the unit selects at a slot's start: R for slot 1, A for 2, G for 3 and X for 4 (R98). No slot has another
number. -/
def rowOf (slot : Nat) : Letter :=
  match slot with
  | 2 => .A
  | 3 => .G
  | 4 => .X
  | _ => .R

/-- The class of an aspect in the frame that completes: the first condition of R105 that holds. An aspect of a scanned row
with no reading (none such exists when a frame completes) is STALE. In a frame with the dim changed flag set a sense-open
reading is SENSE_FAULT, by R105's order and its word on settling, where R104 says STALE whatever the other conditions
(DEDUCED, log 27). -/
def LampUnit.classify (u : LampUnit) (c : CoreId) : ReadingClass :=
  let a := u.scan[c]
  let l := u.lamps[c]
  if rowLeftOut u.scanMode (letterOf c) || l.fitted == 0 then .unscanned
  else match a.reading with
    | none => .stale
    | some r =>
      if r.senseOpen then .senseFault
      else if decide (0 < a.settle) || a.changed || u.dimChanged then .stale
      else if a.latched == .lit then (if r.raw = 4095 then .saturated else .lit)
      else if r.raw ≤ l.leak + u.threshold then .darkOk
      else .unexpected

/-! ## The work of one aspect -/

/-- The lowest reference of a lamp type, in sixteenths of a mA (R111, R112). -/
def referenceFloor (type : LampType) : Nat :=
  match type with
  | .filament => 16
  | .led => 320

/-- A reference clamped into its type's range (R112). -/
def clampReference (type : LampType) (n : Int) : Nat := (clampInt (referenceFloor type) 65520 n).toNat

/-- The active reference: dim while the dim line is on, bright while it is off (R112). -/
def Lamp.active (l : Lamp) (dimOn : Bool) : Nat := if dimOn then l.dim else l.bright

/-- The record with its active reference replaced (R112). -/
def Lamp.setActive (l : Lamp) (dimOn : Bool) (reference : Nat) : Lamp :=
  if dimOn then { l with dim := reference } else { l with bright := reference }

/-- The net current of a reading: max(0, m − I_leak) (R114). -/
def Lamp.net (l : Lamp) (raw : Nat) : Nat := raw - l.leak

/-- The estimated count before clamping: floor((32·net + I) / (2·I)) (R114). -/
def estimate (net reference : Nat) : Nat := (32 * net + reference) / (2 * reference)

/-- Whether a residual is too large for its count: 16·|16·net − k·I| > I·t (R115). -/
def residualDoubtful (net k reference tolerance : Nat) : Bool :=
  decide (reference * tolerance < 16 * ((16 * net : Int) - k * reference).natAbs)

/-- The candidate and proven counts after an estimate that is not doubtful (R116). -/
def Lamp.count (k filter : Nat) (l : Lamp) : Lamp :=
  let l := if k = l.candidate then { l with candidateRun := saturate 15 (l.candidateRun + 1) }
           else { l with candidate := k, candidateRun := 1 }
  if filter ≤ l.candidateRun ∧ l.candidate ≠ l.proven then { l with proven := l.candidate } else l

/-- The active reference moved one sixteenth of the way to the sample of one lamp (R119). -/
def Lamp.learnStep (dimOn : Bool) (net : Nat) (l : Lamp) : Lamp :=
  let i := l.active dimOn
  let sample := 16 * net / l.fitted
  l.setActive dimOn (clampReference l.type ((i : Int) + ((sample : Int) - i).tdiv 16))

/-- What the work of one aspect has found so far: its record, and whether the frame gave overload evidence and was
doubtful. -/
structure LampPass where
  lamp : Lamp
  evidence : Bool
  doubtful : Bool
  certain : Bool
  deriving DecidableEq, Repr

/-- A LIT reading in part 2 of R113: the count arithmetic (R114 to R116), then learning (R119). -/
def Lamp.takeLit (dimOn : Bool) (filter raw : Nat) (l : Lamp) : LampPass :=
  let i := l.active dimOn
  let net := l.net raw
  let k := estimate net i
  let clamped := decide (l.fitted < k)
  if clamped || residualDoubtful net k i l.tolerance then
    { lamp := { l with doubtfulRun := saturate 15 (l.doubtfulRun + 1) }, evidence := clamped, doubtful := true,
      certain := false }
  else
    let l := Lamp.count k filter { l with doubtfulRun := 0 }
    let l := if k = l.fitted ∧ l.proven = l.fitted ∧ l.frozen = false ∧ l.learn = .none then l.learnStep dimOn net
             else l
    { lamp := l, evidence := false, doubtful := false, certain := true }

/-- The overload runs in part 3 of R113 (R118). -/
def Lamp.moveOverload (cls : ReadingClass) (evidence : Bool) (l : Lamp) : Lamp :=
  if evidence then { l with overloadRun := saturate 15 (l.overloadRun + 1), quietRun := 0 }
  else if cls = .lit then { l with overloadRun := 0, quietRun := saturate 15 (l.quietRun + 1) }
  else l

/-- The unexpected run in part 2 of R113 (R124). -/
def Lamp.moveUnexpected (cls : ReadingClass) (l : Lamp) : Lamp :=
  match cls with
  | .unexpected => { l with unexpectedRun := saturate 15 (l.unexpectedRun + 1) }
  | .darkOk | .lit | .saturated => { l with unexpectedRun := 0 }
  | .stale | .senseFault | .unscanned => l

/-- Parts 2 and 3 of R113 for one aspect. -/
def Lamp.takeClass (letter : Letter) (dimOn : Bool) (filter : Nat) (cls : ReadingClass) (raw : Nat) (l : Lamp) :
    LampPass :=
  let l := l.moveUnexpected cls
  let p : LampPass := match cls with
    | .lit => l.takeLit dimOn filter raw
    | .saturated => { lamp := l, evidence := true, doubtful := false, certain := false }
    | .senseFault =>
      { lamp := if letter = .R then l.count 0 filter else l, evidence := false, doubtful := false, certain := false }
    | _ => { lamp := l, evidence := false, doubtful := false, certain := false }
  { p with lamp := p.lamp.moveOverload cls p.evidence }

/-- The lit frame of a LEARN (R120): the active reference, the counts and the runs are set and the request ends. The frame
skips parts 2 and 3 of R113, so no other run moves. -/
def Lamp.learnLit (dimOn : Bool) (raw : Nat) (l : Lamp) : Lamp :=
  let l := l.setActive dimOn (clampReference l.type (16 * l.net raw / l.fitted : Nat))
  { l with proven := l.fitted, candidate := l.fitted, candidateRun := 0, doubtfulRun := 0, learn := .none }

/-- The dark frame of a LEARN, after the frame has been taken under its class: the leak floor becomes the raw reading,
clamped to 200 mA (R120). -/
def Lamp.learnDark (raw : Nat) (l : Lamp) : Lamp := { l with leak := min 200 raw, learn := .litPending }

/-- Parts 1 to 3 of R113. -/
def Lamp.work (letter : Letter) (dimOn : Bool) (filter : Nat) (cls : ReadingClass) (raw : Nat) (l : Lamp) : LampPass :=
  match l.learn, cls with
  | .litPending, .lit => { lamp := l.learnLit dimOn raw, evidence := false, doubtful := false, certain := false }
  | .darkPending, .darkOk | .darkPending, .unexpected =>
    let p := l.takeClass letter dimOn filter cls raw
    { p with lamp := p.lamp.learnDark raw }
  | .darkPending, .unscanned | .litPending, .unscanned =>
    { lamp := { l with learn := .none }, evidence := false, doubtful := false, certain := false }
  | _, _ => l.takeClass letter dimOn filter cls raw

/-- The net current recorded for a class: that of a LIT or DARK_OK reading, 0 mA for a class with no net (R113, R114). -/
def Lamp.netFor (cls : ReadingClass) (raw : Nat) (l : Lamp) : Nat :=
  match cls with
  | .lit | .darkOk => l.net raw
  | _ => 0

/-- Part 6 of R113. -/
def Lamp.setLast (cls : ReadingClass) (r : Reading) (net : Nat) (l : Lamp) : Lamp :=
  if cls = .unscanned then { l with lastClass := cls }
  else { l with lastClass := cls, lastRaw := r.raw, lastSenseOpen := r.senseOpen, lastNet := net }

/-- Whether the red loss condition holds: fitted, with a proven count of 0 (R122, R123). -/
def Lamp.redLossHolds (l : Lamp) : Bool := decide (0 < l.fitted) && l.proven == 0

/-- What the work of one aspect gives: its record, the raises and clears in the order they are made, and what is sent
on in steps 5 to 7 of R107. -/
structure LampOutcome where
  lamp : Lamp
  actions : List FaultAction
  redChange : Bool
  declared : Bool
  conflict : Bool
  result : AspectResult
  deriving DecidableEq, Repr

/-- A raise when a condition holds, a clear when it does not. -/
def raiseOrClear (condition : Bool) (kind : FaultKind) (subject : Subject) : FaultAction :=
  if condition then .raise kind subject else .clear kind subject

/-- The raises and clears of part 4 for a scanned aspect, with the raises of parts 2 and 3 before them (R115, R118, R122,
R124; order within an aspect: DESIGN CHOICE, log 18). -/
def scannedActions (c : CoreId) (filter : Nat) (cls : ReadingClass) (p : LampPass) : List FaultAction :=
  let l := p.lamp
  (if p.doubtful && decide (8 ≤ l.doubtfulRun) then [.raise .lampUncertain (.aspect c)] else []) ++
  (if filter ≤ l.overloadRun then [.raise .lampOverload (.aspect c)] else []) ++
  (if filter ≤ l.quietRun then [.clear .lampOverload (.aspect c)] else []) ++
  (if p.certain then [.clear .lampUncertain (.aspect c)] else []) ++
  [raiseOrClear (decide (1 ≤ l.proven) && decide (l.proven < l.fitted)) .lampPartial (.aspect c)] ++
  (if letterOf c = .R then [] else [raiseOrClear (l.proven == 0) .lampOut (.aspect c)]) ++
  (match cls with
   | .unexpected => if filter ≤ l.unexpectedRun then [.raise .unexpectedCurrent (.aspect c)] else []
   | .darkOk => [.clear .unexpectedCurrent (.aspect c)]
   | _ => [])

/-- The five clears made for an UNSCANNED aspect (R122). -/
def unscannedActions (c : CoreId) : List FaultAction :=
  [.clear .lampPartial (.aspect c), .clear .lampOut (.aspect c), .clear .lampUncertain (.aspect c),
   .clear .lampOverload (.aspect c), .clear .unexpectedCurrent (.aspect c)]

/-- The raise or clear of RED_LOST for an R aspect (R123). -/
def redLossActions (c : CoreId) (l : Lamp) : List FaultAction :=
  if letterOf c = .R then
    if l.redLossHolds then [.raise .redLost (.group (groupOf c))]
    else if l.redLossDeclared then [.clear .redLost (.group (groupOf c))]
    else []
  else []

/-- Whether the observed-conflict check holds for a G aspect (R125), by the mode the engine last told the unit. -/
def State.conflictSeen (s : State) (c : CoreId) (cls : ReadingClass) (l : Lamp) : Bool :=
  letterOf c == .G && cls == .unexpected && decide (s.lamps.filter ≤ l.unexpectedRun) &&
  match s.lamps.toldMode with
  | .run | .held => allGroups.any fun i => s.conflict i (groupOf c) &&
      (s.engine.groups[i].state == .green || s.engine.groups[i].state == .clearance)
  | .flash => true
  | .dark | .start | .supplyOff => false

/-- The dim relay line as the unit has seen it: each change reaches the unit as an event (R104), so a change still on its
way has not been seen. A frame that completes before it counts its readings, taken before the change, by the reference
that suits them, as R112 says of a frame's reference (DEDUCED, log 26). -/
def State.seenDim (s : State) : Bool :=
  match s.outbox.findSome? (fun m => match m with | .dimChange on => some on | _ => none) with
  | some on => !on
  | none => s.engine.dimOn

/-- The work of one aspect at a frame completion (R113). -/
def State.aspectWork (s : State) (c : CoreId) : LampOutcome :=
  let old := s.lamps.lamps[c]
  let cls := s.lamps.classify c
  let r := s.lamps.scan[c].reading.getD { raw := 0, senseOpen := false }
  let p := old.work (letterOf c) s.seenDim s.lamps.filter cls r.raw
  let l := p.lamp
  let holds := letterOf c == .R && l.redLossHolds
  let net := old.netFor cls r.raw
  let seen := s.conflictSeen c cls l
  { lamp := Lamp.setLast cls r net { l with redLossDeclared := holds }
    actions :=
      (if cls = .unscanned then unscannedActions c else scannedActions c s.lamps.filter cls p) ++ redLossActions c l ++
      (if seen then [.raise .conflictObserved (.group (groupOf c))] else [])
    redChange := letterOf c == .R && holds != old.redLossDeclared
    declared :=
      if letterOf c = .R then holds && !old.redLossDeclared
      else cls != .unscanned && decide (0 < old.proven) && l.proven == 0
    conflict := seen
    result := { cls := cls, raw := r.raw, net := net, proven := l.proven } }

/-! ## Slots -/

/-- The settling of a lamp type, in frames (R103). -/
def settling (type : LampType) : Nat :=
  match type with
  | .filament => 2
  | .led => 1

/-- An aspect latched at its slot's start (R99). A latch that restarts settling sets the count afresh, as R99 and R103 say,
also where that lowers the 3 frames of a dim change (R104) to the 2 or 1 of the lamp type (DEDUCED, log 34). -/
def ScanAspect.latch (lit : Bool) (type : LampType) (a : ScanAspect) : ScanAspect :=
  let level := if lit then Latch.lit else Latch.dark
  { a with
    settle := if a.moved || a.latched == .none || a.latched != level then settling type else a.settle
    moved := false
    latched := level }

/-- The output level of an aspect as the unit has seen it: a slot start taken before a change of level that is still on
its way latches the old level, and the change then falls inside the slot (R99; DEDUCED, log 26). -/
def State.seenLevel (s : State) (c : CoreId) : Bool :=
  match s.outbox.findSome? (fun m => match m with
    | .aspectLevelChange d lit => if d = c then some lit else none
    | _ => none) with
  | some lit => !lit
  | none => s.engine.aspects[c].lit

/-- A slot starts: the slot index moves on, the unit selects the slot's row, and the aspects of that row are latched (R98
part 3, R99). -/
def State.startSlot (slot : Nat) (s : State) : State :=
  s.onLamps fun u =>
    { u with
      slotIndex := slot
      rowSelect := rowOf slot
      scan := Vector.ofFn fun c =>
        if letterOf c = rowOf slot then u.scan[c].latch (s.seenLevel c) u.lamps[c].type else u.scan[c] }

/-- A reading as the front end delivers it: at most 4095 mA (R95). -/
def Reading.delivered (r : Reading) : Reading := { r with raw := min 4095 r.raw }

/-- A slot ends: the readings of its row, which has been selected since its start (R95), are stored, and an aspect whose
moved flag is set has its reading marked as changed in slot (R98 part 1). -/
def LampUnit.endSlot (readings : Vector Reading 16) (u : LampUnit) : LampUnit :=
  if u.slotIndex = 0 then u
  else
    { u with scan := Vector.ofFn fun c =>
      let a := u.scan[c]
      if letterOf c = u.rowSelect then
        { a with reading := some (Reading.delivered readings[groupOf c]), changed := a.changed || a.moved }
      else a }

/-- The frame readings are discarded (R98, R100, R102). -/
def LampUnit.emptyFrame (u : LampUnit) : LampUnit :=
  { u with scan := mapBank (fun a => { a with reading := none, changed := false }) u.scan }

/-! ## Frame completion -/

/-- The settle count of an aspect after a frame: lowered by 1, and raised to 3 where it is below 3 on a scanned aspect
when the dim line has changed (R103, R104). -/
def settleAfter (dimChanged scanned : Bool) (settle : Nat) : Nat :=
  if dimChanged && scanned then max 3 (settle - 1) else settle - 1

/-- Whether some aspect of a group has an unexpected run at F frames or more (R108, R124). -/
def LampUnit.unexpectedGroup (u : LampUnit) (g : GroupId) : Bool :=
  letters.any fun l => decide (u.filter ≤ u.lamps[coreOf g l].unexpectedRun)

/-- The snapshot of the present moment (R108). -/
def State.snapshotNow (s : State) : Snapshot where
  sequence := s.lamps.frameSequence
  clock := s.engine.clock
  mode := s.engine.mode
  scanMode := s.lamps.scanMode
  groups := Vector.ofFn fun g =>
    { state := s.engine.groups[g].state
      proven := #v[s.lamps.lamps[coreOf g .R].proven, s.lamps.lamps[coreOf g .A].proven,
                   s.lamps.lamps[coreOf g .G].proven, s.lamps.lamps[coreOf g .X].proven]
      redLost := s.lamps.lamps[coreOf g .R].redLossDeclared
      unexpected := s.lamps.unexpectedGroup g
      inhibited := s.engine.groups[g].inhibited
      withheld := s.engine.groups[g].withheld }

/-- The raise or clear of SENSE_FAULT for a group (R106). -/
def senseAction (works : Vector LampOutcome 64) (g : GroupId) : FaultAction :=
  raiseOrClear (letters.any fun l => works[coreOf g l].result.cls == .senseFault) .senseFault (.group g)

/-- The messages of steps 5 to 7 of a frame completion (R107). -/
def frameMessages (works : Vector LampOutcome 64) : List Instr :=
  ((allCores.filter fun c => works[c].redChange).map fun c => Instr.redLossChange (groupOf c)) ++
  ((allCores.filter fun c => works[c].conflict).map fun c => Instr.conflictObservedDeclaration (groupOf c)) ++
  [Instr.lampFrameResult (mapBank (fun w => w.result) works)] ++
  ((allCores.filter fun c => works[c].declared).map fun c =>
    if letterOf c = .R then Instr.redLostDeclaration c else Instr.lampOutDeclaration c)

/-- The unit's records after steps 1 to 3 of a frame completion (R107): the lamp records, the settle counts, the dim
changed flag, and the latched level of an UNSCANNED aspect, which becomes none. -/
def LampUnit.afterFrame (works : Vector LampOutcome 64) (u : LampUnit) : LampUnit :=
  { u with
    lamps := mapBank (fun w => w.lamp) works
    dimChanged := false
    scan := Vector.ofFn fun c =>
      let a := u.scan[c]
      let scanned := works[c].result.cls != .unscanned
      { a with
        settle := settleAfter u.dimChanged scanned a.settle
        latched := if scanned then a.latched else .none } }

/-- The clears of R126: every CONFLICT_OBSERVED record, when the mode last told is SUPPLY_OFF. -/
def conflictClears (toldMode : Mode) : List FaultAction :=
  if toldMode = .supplyOff then allGroups.map fun g => .clear .conflictObserved (.group g) else []

/-- A frame completes (R107), in one step: a red-loss change that it sends is always taken after its snapshot is built,
one of the two orders that R107 allows (DESIGN CHOICE, log 28). -/
def State.completeFrame (s : State) : State :=
  let works : Vector LampOutcome 64 := Vector.ofFn s.aspectWork
  let s := s.onLamps (LampUnit.afterFrame works)
  let s := s.actAll (works.toList.flatMap fun w => w.actions)
  let s := s.actAll (conflictClears s.lamps.toldMode)
  let s := s.actAll (allGroups.map (senseAction works))
  let s := s.send (frameMessages works)
  let s := s.onLamps fun u => { u with frameSequence := u.frameSequence + 1#16 }
  s.onLamps fun u => { u with snapshot := s.snapshotNow }

/-- Whether a zero-cross edge is counted: at least 6 ms since the last counted one, and always after a suspension
(R97). -/
def State.edgeCounts (s : State) : Bool :=
  s.lamps.scanState == .suspended || decide (6 ≤ elapsed s.nowMs s.lamps.lastZeroCross)

/-- The slot that follows a slot index (R98 part 3). -/
def nextSlot (mode : ScanMode) (slot : Nat) : Nat := if slot = 0 ∨ slotsOf mode ≤ slot then 1 else slot + 1

/-- A zero-cross edge with the readings of the slot it ends (R97, R98, R100). -/
def State.zeroCrossEdge (readings : Vector Reading 16) (s : State) : State :=
  if !s.edgeCounts then s
  else
    let s' := s.onLamps fun u => { u with lastZeroCross := s.nowMs }
    match s.lamps.scanState with
    | .suspended => (s'.onLamps fun u => { u with scanState := .scanning }).startSlot 1
    | .scanning =>
      let slot := s.lamps.slotIndex
      let t := s'.onLamps (LampUnit.endSlot readings)
      let t := if slot = slotsOf s.lamps.scanMode then t.completeFrame.onLamps LampUnit.emptyFrame else t
      t.startSlot (nextSlot s.lamps.scanMode slot)

/-- Scanning is suspended (R100). While no slot is in progress row R, which the next slot reads, is selected (DESIGN CHOICE,
log 35). -/
def LampUnit.suspend (u : LampUnit) : LampUnit :=
  LampUnit.emptyFrame
    { u with
      scanState := .suspended
      slotIndex := 0
      rowSelect := .R
      lamps := Vector.ofFn fun c =>
        if rowLeftOut u.scanMode (letterOf c) || u.lamps[c].fitted == 0 then u.lamps[c]
        else { u.lamps[c] with lastClass := .stale }
      scan := mapBank (fun a => { a with moved := true }) u.scan }

/-- An accepted WRITE_LAMP or LEARN: the aspect's latched level becomes none, and its reading in the frame in progress is
marked as changed in slot (R99). -/
def LampUnit.forget (c : CoreId) (u : LampUnit) : LampUnit :=
  { u with scan := change u.scan c fun a =>
    { a with latched := .none, changed := a.changed || decide (u.slotIndex ≠ 0) } }

end Sys2Proof.Machine
end

