-- ==== Sys2Proof/Machine/GroupRequests.lean ====
section
/-! DEFINITION. The requests on group records: WRITE_GROUP (R1, R13 to R15, R48) and READ_GROUP (R16). -/

namespace Sys2Proof.Machine

/-- The five timings of a group (R14). -/
inductive Timing where
  | minGreen
  | redAmber
  | amber
  | clearance
  | minRed
  deriving DecidableEq, Repr

/-- The least and the greatest value of a timing for a type (R14). -/
def timingLimits (type : GroupType) (timing : Timing) : Nat × Nat :=
  match type, timing with
  | .unused, _ => (0, 0)
  | _, .minGreen => (10, 600)
  | .vehicle, .redAmber => (10, 30)
  | .pedestrian, .redAmber | .tram, .redAmber => (0, 0)
  | .vehicle, .amber | .tram, .amber => (20, 60)
  | .pedestrian, .amber => (0, 0)
  | .pedestrian, .clearance => (30, 300)
  | .vehicle, .clearance | .tram, .clearance => (0, 0)
  | _, .minRed => (10, 100)

/-- Whether a timing lies in the range of a type (R14). -/
def timingInRange (type : GroupType) (timing : Timing) (n : Nat) : Bool :=
  within (timingLimits type timing).1 (timingLimits type timing).2 n

/-- Whether five timings lie in the ranges of a type (R14). -/
def timingsInRange (type : GroupType) (minGreen redAmber amber clearance minRed : Nat) : Bool :=
  timingInRange type .minGreen minGreen && timingInRange type .redAmber redAmber && timingInRange type .amber amber &&
  timingInRange type .clearance clearance && timingInRange type .minRed minRed

/-- Whether a group may take a type: no aspect that a new type marks "not fitted" has a fitted count above 0 (R1). -/
def State.typeAllowed (s : State) (g : GroupId) (type : GroupType) : Bool :=
  s.typeOf g == type || letters.all fun l => !notFitted type l || s.fitted (coreOf g l) == 0

/-- A group record with its configuration fields replaced (R13). -/
def Group.rewrite (type : GroupType) (minGreen redAmber amber clearance minRed : Nat) (r : Group) : Group :=
  { r with
    type := type
    minGreen := minGreen
    redAmber := redAmber
    amber := amber
    clearance := clearance
    minRed := minRed }

/-- Whether every group that conflicts with j keeps its intergreens when j takes a new record (R15). -/
def State.groupCovered (s : State) (j : GroupId) (r : Group) : Bool :=
  let groups := put s.engine.groups j r
  allGroups.all fun i =>
    !conflictUnder s.conflicts.matrix (fun g => groups[g].type) i j ||
    (intergreenCovers (s.conflicts.ig i j) groups[i] groups[j] &&
     intergreenCovers (s.conflicts.ig j i) groups[j] groups[i])

/-- What a change of type does to the running fields of a record (R13): red_lost and withheld are cleared, and in FLASH
the state becomes what the new type shows there. -/
def Group.retype (mode : Mode) (r : Group) : Group :=
  let r := { r with redLost := false, withheld := false }
  if mode = .flash then r.setTo (flashState r.type) else r

/-- An accepted WRITE_GROUP (R13, R48). -/
def State.writeGroup (g : GroupId) (r : Group) (s : State) : State :=
  if r.type = s.typeOf g then s.onEngine fun e => { e with groups := put e.groups g r }
  else
    let s := s.onEngine fun e => { e with groups := put e.groups g (r.retype e.mode) }
    let s := s.onLamps fun u =>
      { u with lamps := change u.lamps (coreOf g .R) fun l => { l with redLossDeclared := false } }
    (s.clear .redLost (.group g)).revalidate

/-- WRITE_GROUP as the engine takes it (R13). -/
def reqWriteGroup (group type minGreen redAmber amber clearance minRed : Nat) (s : State) : State × Answer :=
  if !isStopped s.engine.mode then refuse .wrongMode s
  else if s.saving then refuse .busy s
  else match groupNumber group, valueOf groupTypes type with
    | some g, some t =>
      let r := s.engine.groups[g].rewrite t minGreen redAmber amber clearance minRed
      if timingsInRange t minGreen redAmber amber clearance minRed && s.typeAllowed g t && s.groupCovered g r then
        okay (s.writeGroup g r).present
      else refuse .range s
    | _, _ => refuse .range s

/-- A group record as READ_GROUP sends it (R2, R172). -/
def groupBytes (r : Group) : List Byte :=
  enum groupTypes r.type ++ enum groupStates r.state ++ u16 r.timeInState ++ u32 r.lastGreenEnd ++ u32 r.greenStart ++
  u16 r.minGreen ++ u8 r.redAmber ++ u8 r.amber ++ u16 r.clearance ++ u8 r.minRed ++
  flag r.redLost ++ flag r.inhibited ++ flag r.withheld

/-- READ_GROUP as the engine takes it (R16). -/
def reqReadGroup (group : Nat) (s : State) : State × Answer :=
  match groupNumber group with
  | some g =>
    okWith (groupBytes s.engine.groups[g] ++
      (letters.flatMap fun l => enum aspectCommands (s.command (coreOf g l))) ++ clockBytes s) s
  | none => refuse .range s

/-- WRITE_GROUP (R13). -/
def execWriteGroup (group type minGreen redAmber amber clearance minRed : Nat) (s : State) :
    Host.Outcome State Fault Refusal :=
  .next (serve 1 .plan s (reqWriteGroup group type minGreen redAmber amber clearance minRed))

/-- READ_GROUP (R16). -/
def execReadGroup (p : Port) (group : Nat) (s : State) : Host.Outcome State Fault Refusal :=
  .next (serve 2 p s (reqReadGroup group))

end Sys2Proof.Machine
end

