-- ==== Sys2Proof/Machine/ModeRequests.lean ====
section
/-! DEFINITION. The requests on the junction mode and the hold: RESTART (R22, R23), WRITE_START_TIMES (R25), FORCE_FLASH
and FORCE_OFF (R26, R27), HOLD (R31), RESUME (R34), STEP (R35), RUN_STEPS (R36) and READ_MODE (R39). -/

namespace Sys2Proof.Machine

/-- RESTART as the engine takes it: its five refusals in order, then START (R22, R23). -/
def reqRestart (s : State) : State × Answer :=
  if !isStopped s.engine.mode then refuse .wrongMode s
  else if s.seq.plan.validity = .invalid then refuse .wrongMode s
  else if s.saving then refuse .wrongMode s
  else if s.faults.holds .conflictObserved (fun _ => true) then refuse .blocked s
  else if s.faults.holds .senseFault (fun r => r.state == .active) then refuse .blocked s
  else okay s.restartJunction

/-- WRITE_START_TIMES as the engine takes it (R25). -/
def reqWriteStartTimes (startFlash allRed : Nat) (s : State) : State × Answer :=
  if !isStopped s.engine.mode then refuse .wrongMode s
  else if s.saving then refuse .busy s
  else if !(within 0 600 startFlash && within 30 300 allRed) then refuse .range s
  else okay (s.onEngine fun e => { e with startFlash := startFlash, allRed := allRed })

/-- FORCE_FLASH as the engine takes it (R26). -/
def reqForceFlash (s : State) : State × Answer :=
  if !isSupplied s.engine.mode then refuse .wrongMode s
  else okay (s.raise .forced .none).enterFlash

/-- FORCE_OFF as the engine takes it (R27). -/
def reqForceOff (s : State) : State × Answer := okay ((s.raise .forced .none).enterSupplyOff true)

/-- The cause of a HOLD from a port (R30). -/
def holdCauseOf (p : Port) : HoldCause :=
  match p with
  | .maintenance => .maintRequest
  | .plan | .monitor => .planRequest

/-- HOLD as the engine takes it (R31). -/
def reqHold (p : Port) (s : State) : State × Answer :=
  if !isRunning s.engine.mode then refuse .wrongMode s
  else okay (s.takeHold (holdCauseOf p) .none)

/-- A pending hold is given up (R34, R38). -/
def HoldRecord.unpend (h : HoldRecord) : HoldRecord :=
  { h with pending := false, pendingCause := .none, budgetPort := .none }

/-- RESUME as the engine takes it (R34). -/
def reqResume (p : Port) (s : State) : State × Answer :=
  match s.engine.mode with
  | .held =>
    if mayRelease p s.engine.hold.cause s.engine.hold.budgetPort then okay s.leaveHeld.present else refuse .notOwner s
  | .run =>
    if s.engine.hold.pending = false then refuse .wrongMode s
    else if mayRelease p s.engine.hold.pendingCause s.engine.hold.budgetPort then
      okay (s.onEngine fun e => { e with hold := e.hold.unpend })
    else refuse .notOwner s
  | .dark | .start | .flash | .supplyOff => refuse .wrongMode s

/-- STEP as the engine and the sequencer take it (R35). -/
def reqStep (index : Option Nat) (s : State) : State × Answer :=
  match s.takeStep index with
  | .error status => refuse status s
  | .ok t => okay t

/-- The budget port a port stands for (R36). -/
def budgetPortOf (p : Port) : BudgetPort :=
  match p with
  | .plan => .plan
  | .maintenance => .maintenance
  | .monitor => .none

/-- The sequencer takes a step budget, a budget of 0 being taken as 1 (R36). -/
def State.setBudget (p : Port) (n : Nat) (s : State) : State :=
  s.onSeq fun q => { q with budget := max 1 n, budgetPort := budgetPortOf p }

/-- RUN_STEPS as the engine and the sequencer take it (R36). -/
def reqRunSteps (p : Port) (n : Nat) (s : State) : State × Answer :=
  match s.engine.mode with
  | .held =>
    if mayRelease p s.engine.hold.cause s.engine.hold.budgetPort then okay (s.setBudget p n).leaveHeld.present
    else refuse .notOwner s
  | .run => okay (s.setBudget p n)
  | .dark | .start | .flash | .supplyOff => refuse .wrongMode s

/-- The hold record as READ_MODE sends it (R30, R172). -/
def holdBytes (h : HoldRecord) : List Byte :=
  enum holdCauses h.cause ++ u32 h.entered ++ flag h.pending ++ enum holdCauses h.pendingCause ++
  enum budgetPorts h.budgetPort

/-- READ_MODE as the engine takes it (R39). -/
def reqReadMode (s : State) : State × Answer :=
  okWith (enum modes s.engine.mode ++ enum startPhases s.engine.startPhase ++ u16 s.engine.phaseTime ++
    u16 s.engine.startFlash ++ u16 s.engine.allRed ++ holdBytes s.engine.hold ++ u8 s.seq.budget ++
    flag s.engine.interstage.inFlight ++ flag s.engine.slot.isSome ++ flag s.engine.hand.debounced ++
    flag s.engine.stepButton.debounced ++ clockBytes s) s

/-- RESTART (R22, R23). -/
def execRestart (s : State) : Host.Outcome State Fault Refusal := .next (serve 3 .monitor s reqRestart)

/-- WRITE_START_TIMES (R25). -/
def execWriteStartTimes (startFlash allRed : Nat) (s : State) : Host.Outcome State Fault Refusal :=
  .next (serve 4 .monitor s (reqWriteStartTimes startFlash allRed))

/-- FORCE_FLASH (R26). -/
def execForceFlash (s : State) : Host.Outcome State Fault Refusal := .next (serve 5 .monitor s reqForceFlash)

/-- FORCE_OFF (R27). -/
def execForceOff (s : State) : Host.Outcome State Fault Refusal := .next (serve 6 .monitor s reqForceOff)

/-- HOLD (R31). -/
def execHold (p : Port) (s : State) : Host.Outcome State Fault Refusal := .next (serve 7 p s (reqHold p))

/-- RESUME (R34). -/
def execResume (p : Port) (s : State) : Host.Outcome State Fault Refusal := .next (serve 8 p s (reqResume p))

/-- STEP (R35). -/
def execStep (p : Port) (index : Option Nat) (s : State) : Host.Outcome State Fault Refusal :=
  .next (serve 9 p s (reqStep index))

/-- RUN_STEPS (R36). -/
def execRunSteps (p : Port) (n : Nat) (s : State) : Host.Outcome State Fault Refusal :=
  .next (serve 10 p s (reqRunSteps p n))

/-- READ_MODE (R39). -/
def execReadMode (p : Port) (s : State) : Host.Outcome State Fault Refusal := .next (serve 11 p s reqReadMode)

end Sys2Proof.Machine
end

