-- ==== Sys2Proof/Machine/ConflictRequests.lean ====
section
/-! DEFINITION. The requests on the conflict tables and the interstage: WRITE_CONFLICTS (R43, R47), WRITE_INTERGREENS
(R44, R45), READ_CONFLICTS and READ_INTERGREENS (R46), and READ_INTERSTAGE (R54). -/

namespace Sys2Proof.Machine

/-- The numbers in a list as the response of WRITE_CONFLICTS sends them: how many, then each (R43; log 11). -/
def countedList (numbers : List Nat) : List Byte := u8 numbers.length ++ numbers.flatMap u8

/-- WRITE_CONFLICTS as the Conflict Table takes it (R43). -/
def reqWriteConflicts (matrix : Vector GroupSet 16) (s : State) : State × Answer :=
  if !isStopped s.engine.mode then refuse .wrongMode s
  else if s.saving then refuse .busy s
  else if !matrixSound matrix then refuse .range s
  else if !intergreensSound matrix s.conflicts.ig s.engine.groups then refuse .range s
  else
    let t := s.onConflicts fun c => { c with matrix := matrix }
    okWith (countedList (t.plansBroken.map fun p => p.val + 1) ++ countedList (t.entriesBroken.map fun e => e.val + 1))
      t.revalidate.present

/-- The sixteen staged rows as a table; rows not yet received stand as 0 (R44). -/
def stagedTable (rows : List IgRow) : Vector IgRow 16 :=
  Vector.ofFn fun i => rows.getD i.val (Vector.replicate 16 0#8)

/-- A part of a new intergreen table is taken into the staging record (R44). -/
def ConflictTable.stage (part : Nat) (rows : List IgRow) (t : ConflictTable) : ConflictTable :=
  { t with stagedRows := (if part = 1 then [] else t.stagedRows) ++ rows, stagedParts := part }

/-- The fourth part completes the table (R45): checked whole against the relation and timings in force, it replaces the
table in force or is refused; the staging record is emptied either way. -/
def State.completeIntergreens (rows : List IgRow) (s : State) : State × Answer :=
  let table := stagedTable (s.conflicts.stagedRows ++ rows)
  let s := s.onConflicts fun t => { t with stagedRows := [], stagedParts := 0 }
  if intergreensSound s.conflicts.matrix (fun i j => (table[i][j]).toNat) s.engine.groups then
    okay (s.onConflicts fun t => { t with intergreens := table })
  else refuse .range s

/-- WRITE_INTERGREENS as the Conflict Table takes it (R44, R45). -/
def reqWriteIntergreens (part : Nat) (rows : Vector IgRow 4) (s : State) : State × Answer :=
  if !isStopped s.engine.mode then refuse .wrongMode s
  else if s.saving then refuse .busy s
  else if !within 1 4 part then refuse .range s
  else if part ≠ 1 ∧ s.conflicts.stagedParts ≠ part - 1 then refuse .range s
  else if part = 4 then s.completeIntergreens rows.toList
  else okay (s.onConflicts (ConflictTable.stage part rows.toList))

/-- READ_CONFLICTS as the Conflict Table takes it (R46). -/
def reqReadConflicts (s : State) : State × Answer :=
  okWith (s.conflicts.matrix.toList.flatMap groupSetBytes ++ clockBytes s) s

/-- READ_INTERGREENS as the Conflict Table takes it (R46). -/
def reqReadIntergreens (part : Nat) (s : State) : State × Answer :=
  if !within 1 4 part then refuse .range s
  else
    okWith (((s.conflicts.intergreens.toList.drop (4 * (part - 1))).take 4).flatMap (fun row => row.toList) ++
      clockBytes s) s

/-- A tag, or the free bytes that stand for none (log 12). -/
def tagOrAbsent (field : AbsentField) (tag : Option Tag) : List Byte :=
  match tag with
  | some t => tagBytes t
  | none => (List.range 5).map (Config.absentByte field)

/-- The start conditions of the entering groups that are in RED, as the last step left them (R54). -/
def startTestBytes (e : Engine) : List Byte :=
  (allGroups.filter fun g => e.interstage.entering[g] && e.groups[g].state == .red).flatMap fun g =>
    flag e.startTests[g].notInhibited ++ flag e.startTests[g].minRedRun ++ flag e.startTests[g].intergreensRun

/-- READ_INTERSTAGE as the engine takes it (R54). -/
def reqReadInterstage (s : State) : State × Answer :=
  let e := s.engine
  let i := e.interstage
  okWith (flag i.inFlight ++ groupSetBytes i.target ++ groupSetBytes i.leaving ++ groupSetBytes i.entering ++
    u32 i.begunAt ++ tagOrAbsent .interstageTag i.tag ++
    (match e.slot with
     | some r => flag true ++ groupSetBytes r.set ++ tagBytes r.tag
     | none => flag false) ++
    groupSetBytes (groupsWhere fun g => e.groups[g].inhibited) ++
    groupSetBytes (groupsWhere fun g => e.groups[g].withheld) ++ startTestBytes e ++ clockBytes s) s

/-- WRITE_CONFLICTS (R43). -/
def execWriteConflicts (matrix : Vector GroupSet 16) (s : State) : Host.Outcome State Fault Refusal :=
  .next (serve 12 .monitor s (reqWriteConflicts matrix))

/-- WRITE_INTERGREENS (R44, R45). -/
def execWriteIntergreens (part : Nat) (rows : Vector (Vector Byte 16) 4) (s : State) :
    Host.Outcome State Fault Refusal :=
  .next (serve 13 .monitor s (reqWriteIntergreens part rows))

/-- READ_CONFLICTS (R46). -/
def execReadConflicts (p : Port) (s : State) : Host.Outcome State Fault Refusal := .next (serve 14 p s reqReadConflicts)

/-- READ_INTERGREENS (R46). -/
def execReadIntergreens (p : Port) (part : Nat) (s : State) : Host.Outcome State Fault Refusal :=
  .next (serve 15 p s (reqReadIntergreens part))

/-- READ_INTERSTAGE (R54). -/
def execReadInterstage (p : Port) (s : State) : Host.Outcome State Fault Refusal :=
  .next (serve 16 p s reqReadInterstage)

end Sys2Proof.Machine
end

