-- ==== Sys2Proof/Machine/PlanRequests.lean ====
section
/-! DEFINITION. The requests on plans, the sequence and synchronisation: WRITE_PLAN (R63, R64), READ_PLAN (R65),
SELECT_PLAN (R66), DEMAND (R77), EXTEND (R78), the substitution entries (R80 to R82), READ_SEQUENCE (R82) and READ_SYNC
(R94). -/

namespace Sys2Proof.Machine

/-- Whether a plan is the plan in force or the pending plan (R63). -/
def Sequencer.inUse (q : Sequencer) (p : PlanId) : Bool := q.inForce == p || q.pendingPlan == some p

/-- WRITE_PLAN part 1 (R63): a plan of more than six stages is staged, and a shorter one completes the write. -/
def State.takePlanPartOne (p : PlanId) (cycle offset sync dim count : Nat) (stages : List StageArgs) (s : State) :
    State × Answer :=
  if count ≤ 6 then s.completePlan p cycle offset sync dim count stages
  else
    okay (s.onSeq fun q =>
      { q with staging := some { plan := p, cycle := cycle, offset := offset, sync := sync, dim := dim, count := count,
                                 stages := stages } })

/-- WRITE_PLAN part 2 (R63): in order only behind a staged part 1 of the same plan with more than six stages. -/
def State.takePlanPartTwo (p : PlanId) (stages : List StageArgs) (s : State) : State × Answer :=
  match s.seq.staging with
  | some g =>
    if g.plan = p ∧ 6 < g.count then
      s.completePlan p g.cycle g.offset g.sync g.dim g.count (g.stages ++ stages)
    else refuse .range s
  | none => refuse .range s

/-- The plan number a part names, none for a part number that is neither 1 nor 2 or a plan number outside 1 to 8
(R63). -/
def PlanPart.plan? (part : PlanPart) : Option PlanId :=
  match part with
  | .one plan _ _ _ _ _ _ => planNumber plan
  | .two plan _ => planNumber plan
  | .other _ => none

/-- WRITE_PLAN as the sequencer takes it (R63, R64). -/
def reqWritePlan (part : PlanPart) (s : State) : State × Answer :=
  if s.saving then refuse .busy s
  else match PlanPart.plan? part with
    | none => refuse .range s
    | some p =>
      if s.seq.inUse p then refuse .inUse s
      else match part with
        | .one _ cycle offset sync dim count stages => s.takePlanPartOne p cycle offset sync dim count stages
        | .two _ stages => s.takePlanPartTwo p stages
        | .other _ => refuse .range s

/-- A stage record as READ_PLAN sends it (R61, R172). -/
def stageBytes (st : Stage) : List Byte :=
  groupSetBytes st.set ++ u16 st.endPoint ++ u16 st.stageMin ++ u16 st.stageMax ++ flag st.demandDependent ++
  flag st.elastic

/-- Stages a to b of a plan (R65). -/
def planStages (p : Plan) (a b : Nat) : List Stage := (List.range' a (b + 1 - a)).map p.stage

/-- READ_PLAN as the sequencer takes it (R65). -/
def reqReadPlan (plan part : Nat) (s : State) : State × Answer :=
  match planNumber plan with
  | none => refuse .range s
  | some p =>
    let r := s.seq.plans[p]
    if part = 1 then
      okWith (u16 r.cycle ++ u16 r.offset ++ flag r.sync ++ flag r.dim ++ u8 r.count ++ enum validities r.validity ++
        flag (s.seq.inForce == p) ++ flag (s.seq.pendingPlan == some p) ++
        (planStages r 1 (min r.count 6)).flatMap stageBytes) s
    else if part = 2 then okWith ((planStages r 7 r.count).flatMap stageBytes) s
    else refuse .range s

/-- An accepted SELECT_PLAN, by mode (R66). -/
def State.selectPlan (p : PlanId) (s : State) : State :=
  match s.engine.mode with
  | .run | .held => s.onSeq fun q => { q with pendingPlan := if p = q.inForce then none else some p }
  | .dark | .start | .flash | .supplyOff => State.present (s.onSeq fun q => { q with inForce := p })

/-- SELECT_PLAN as the sequencer takes it (R66). -/
def reqSelectPlan (plan : Nat) (s : State) : State × Answer :=
  match planNumber plan with
  | none => refuse .range s
  | some p => if s.seq.plans[p].validity = .valid then okay (s.selectPlan p) else refuse .invalidPlan s

/-- DEMAND as the sequencer takes it (R77). -/
def reqDemand (stage : Nat) (s : State) : State × Answer :=
  if !within 1 s.seq.plan.count stage then refuse .range s
  else okay (State.present (s.onSeq fun q => { q with demands := setLatch q.demands stage true }))

/-- The extension end after an EXTEND: the later of the present end and the stage timer plus x, clamped to the running
stage's maximum (R78). -/
def Sequencer.extended (q : Sequencer) (x : Nat) : Nat :=
  min q.running.stageMax (max q.extensionEnd (q.stageTimer + x))

/-- EXTEND as the sequencer takes it (R78). -/
def reqExtend (x : Nat) (s : State) : State × Answer :=
  if s.engine.mode ≠ .run then refuse .wrongMode s
  else if !within 1 100 x then refuse .range s
  else okay (s.onSeq fun q => { q with extensionEnd := q.extended x })

/-- The other substitution entry. -/
def otherEntry (e : EntryId) : EntryId := if e = 0 then 1 else 0

/-- The entry that a WRITE_SUBST brings, none when a field is outside its range (R79). -/
def substEntry (plan stage : Nat) (set : GroupSet) (stageMin stageMax demandFlag : Nat) : Option SubstEntry := do
  let p ← planNumber plan
  let d ← flagArg demandFlag
  if within 1 12 stage && within 0 600 stageMin && within stageMin 1200 stageMax then
    return { plan := p, stage := stage, set := set, stageMin := stageMin, stageMax := stageMax, demandFlag := d,
             enabled := false }
  else none

/-- WRITE_SUBST as the sequencer takes it (R80). -/
def reqWriteSubst (entry plan stage : Nat) (set : GroupSet) (stageMin stageMax demandFlag : Nat) (s : State) :
    State × Answer :=
  if s.saving then refuse .busy s
  else match entryNumber entry, substEntry plan stage set stageMin stageMax demandFlag with
    | some e, some r =>
      let other := s.seq.substs[otherEntry e]
      if s.seq.substs[e].enabled then refuse .armed s
      else if other.plan = r.plan ∧ other.stage = r.stage then refuse .inUse s
      else if !s.conflictFree set then refuse .conflict s
      else okay (State.present (s.onSeq fun q => { q with substs := put q.substs e r }))
    | _, _ => refuse .range s

/-- The enabled flag of an entry is set or cleared, and the wait indicators follow (R6, R81). -/
def State.enableEntry (e : EntryId) (on : Bool) (s : State) : State :=
  State.present (s.onSeq fun q => { q with substs := change q.substs e fun r => { r with enabled := on } })

/-- ENABLE_SUBST as the sequencer takes it (R81). -/
def reqEnableSubst (entry : Nat) (s : State) : State × Answer :=
  if s.saving then refuse .busy s
  else match entryNumber entry with
    | none => refuse .range s
    | some e =>
      if !s.conflictFree s.seq.substs[e].set then refuse .conflict s else okay (s.enableEntry e true)

/-- DISABLE_SUBST as the sequencer takes it (R81). -/
def reqDisableSubst (entry : Nat) (s : State) : State × Answer :=
  if s.saving then refuse .busy s
  else match entryNumber entry with
    | none => refuse .range s
    | some e => okay (s.enableEntry e false)

/-- A substitution entry as READ_SUBST sends it (R79, R172). -/
def substBytes (e : SubstEntry) : List Byte :=
  planByte e.plan ++ u8 e.stage ++ groupSetBytes e.set ++ u16 e.stageMin ++ u16 e.stageMax ++ flag e.demandFlag ++
  flag e.enabled

/-- READ_SUBST as the sequencer takes it (R82). -/
def reqReadSubst (s : State) : State × Answer := okWith (s.seq.substs.toList.flatMap substBytes) s

/-- The running stage as READ_SEQUENCE sends it (R70, R172). -/
def runningBytes (r : RunningStage) : List Byte :=
  planByte r.plan ++ u8 r.index ++ groupSetBytes r.set ++ u16 r.endPoint ++ u16 r.precedingEnd ++ u16 r.stageMin ++
  u16 r.stageMax ++ flag r.demandDependent ++ flag r.elastic ++ flag r.substituted

/-- The correction record as READ_SEQUENCE and READ_SYNC send it (R87, R172). -/
def correctionBytes (c : Correction) : List Byte :=
  enum correctionStates c.state ++ enum directions c.direction ++ u16 c.amount ++ u16 c.applied ++ u16 c.remaining ++
  u16 c.planned

/-- A plan number that may be absent (R172; log 12). -/
def planOrAbsent (field : AbsentField) (plan : Option PlanId) : List Byte :=
  match plan with
  | some p => planByte p
  | none => [Config.absentByte field 0]

/-- READ_SEQUENCE as the sequencer takes it (R82). -/
def reqReadSequence (s : State) : State × Answer :=
  let q := s.seq
  okWith (planByte q.inForce ++ planOrAbsent .pendingPlan q.pendingPlan ++ enum seqStates q.state ++ u16 q.cycleTimer ++
    u8 q.stageIndex ++ u16 q.stageTimer ++ runningBytes q.running ++ groupSetBytes q.latest.set ++
    tagOrAbsent .latestTag q.latest.tag ++ u16 q.extensionEnd ++ flag q.deferred ++ stageSetBytes q.demands ++
    u8 q.budget ++ enum budgetPorts q.budgetPort ++ correctionBytes q.correction ++ clockBytes s) s

/-- The sync record as READ_SYNC sends it (R84, R172). -/
def syncBytes (y : SyncRecord) : List Byte :=
  enum filterStates y.filter ++
  (match y.lastPulse with
   | some c => u32 c
   | none => (List.range 4).map (Config.absentByte .lastPulse)) ++
  u16 y.lastCycleTimer ++ planOrAbsent .lastPlan y.lastPlan ++ i16 y.lastError ++ flag y.inStep ++
  enum watchStates y.watch ++ u32 y.watchStart

/-- READ_SYNC as the sequencer takes it (R94). -/
def reqReadSync (s : State) : State × Answer :=
  okWith (syncBytes s.seq.sync ++ correctionBytes s.seq.correction ++ u16 s.seq.plan.offset ++ u16 s.seq.plan.cycle ++
    flag s.seq.plan.sync ++ u16 s.seq.cycleTimer ++ clockBytes s) s

/-- WRITE_PLAN (R63, R64). -/
def execWritePlan (part : PlanPart) (s : State) : Host.Outcome State Fault Refusal :=
  .next (serve 17 .plan s (reqWritePlan part))

/-- READ_PLAN (R65). -/
def execReadPlan (p : Port) (plan part : Nat) (s : State) : Host.Outcome State Fault Refusal :=
  .next (serve 18 p s (reqReadPlan plan part))

/-- SELECT_PLAN (R66). -/
def execSelectPlan (plan : Nat) (s : State) : Host.Outcome State Fault Refusal :=
  .next (serve 19 .plan s (reqSelectPlan plan))

/-- DEMAND (R77). -/
def execDemand (stage : Nat) (s : State) : Host.Outcome State Fault Refusal :=
  .next (serve 20 .plan s (reqDemand stage))

/-- EXTEND (R78). -/
def execExtend (x : Nat) (s : State) : Host.Outcome State Fault Refusal := .next (serve 21 .plan s (reqExtend x))

/-- WRITE_SUBST (R80). -/
def execWriteSubst (entry plan stage : Nat) (set : GroupSet) (stageMin stageMax demandFlag : Nat) (s : State) :
    Host.Outcome State Fault Refusal :=
  .next (serve 22 .plan s (reqWriteSubst entry plan stage set stageMin stageMax demandFlag))

/-- ENABLE_SUBST (R81). -/
def execEnableSubst (entry : Nat) (s : State) : Host.Outcome State Fault Refusal :=
  .next (serve 23 .plan s (reqEnableSubst entry))

/-- DISABLE_SUBST (R81). -/
def execDisableSubst (entry : Nat) (s : State) : Host.Outcome State Fault Refusal :=
  .next (serve 24 .plan s (reqDisableSubst entry))

/-- READ_SUBST (R82). -/
def execReadSubst (p : Port) (s : State) : Host.Outcome State Fault Refusal := .next (serve 25 p s reqReadSubst)

/-- READ_SEQUENCE (R82). -/
def execReadSequence (p : Port) (s : State) : Host.Outcome State Fault Refusal := .next (serve 26 p s reqReadSequence)

/-- READ_SYNC (R94). -/
def execReadSync (p : Port) (s : State) : Host.Outcome State Fault Refusal := .next (serve 27 p s reqReadSync)

end Sys2Proof.Machine
end

