-- ==== Sys2Proof/Machine/LampRequests.lean ====
section
/-! DEFINITION. The requests on scanning and lamps: WRITE_SCAN (R102), READ_SNAPSHOT (R109), READ_SCAN (R110), WRITE_LAMP
(R121), LEARN (R120) and READ_LAMP (R127). -/

namespace Sys2Proof.Machine

/-- What a change of scan mode does beside the field (R102): the frame in progress is dropped, the next zero-cross starts
slot 1, and every X aspect loses its latch, and in THREE_ROW its class. The slot in progress runs on with its row selected,
also row X (DEDUCED, log 35). -/
def LampUnit.changeMode (mode : ScanMode) (u : LampUnit) : LampUnit :=
  LampUnit.emptyFrame
    { u with
      scanMode := mode
      slotIndex := 0
      scan := Vector.ofFn fun c => if isX c then { u.scan[c] with latched := .none } else u.scan[c]
      lamps := Vector.ofFn fun c =>
        if isX c && mode == .threeRow then { u.lamps[c] with lastClass := .unscanned } else u.lamps[c] }

/-- An accepted WRITE_SCAN: F is clamped into 2 to 15 frames (R102). -/
def LampUnit.writeScan (mode : ScanMode) (filter threshold : Nat) (u : LampUnit) : LampUnit :=
  let u := if mode = u.scanMode then u else u.changeMode mode
  { u with filter := clamp 2 15 filter, threshold := threshold }

/-- WRITE_SCAN as the unit takes it (R102). -/
def reqWriteScan (scanMode filter threshold : Nat) (s : State) : State × Answer :=
  if !isStopped s.engine.mode then refuse .wrongMode s
  else if s.saving then refuse .busy s
  else match valueOf scanModes scanMode with
    | some m =>
      if within 10 200 threshold then okay (s.onLamps (LampUnit.writeScan m filter threshold)) else refuse .range s
    | none => refuse .range s

/-- One byte holding two counts, the first in bits 0 to 3 (R172). -/
def nibbles (a b : Nat) : List Byte := u8 (a % 16 + 16 * (b % 16))

/-- A group's four bytes of the snapshot record (R172). -/
def snapshotGroupBytes (g : SnapshotGroup) : List Byte :=
  enum groupStates g.state ++ nibbles g.proven[0] g.proven[1] ++ nibbles g.proven[2] g.proven[3] ++
  u8 (bitsToNat [g.redLost, g.unexpected, g.inhibited, g.withheld])

/-- The 72 bytes of the snapshot record (R172). -/
def snapshotBytes (n : Snapshot) : List Byte :=
  u16 n.sequence.toNat ++ u32 n.clock ++ enum modes n.mode ++ enum scanModes n.scanMode ++
  n.groups.toList.flatMap snapshotGroupBytes

/-- READ_SNAPSHOT as the unit takes it (R109). -/
def reqReadSnapshot (s : State) : State × Answer := okWith (snapshotBytes s.lamps.snapshot) s

/-- An aspect's fields of READ_SCAN (R110). -/
def scanAspectBytes (a : ScanAspect) (l : Lamp) : List Byte :=
  enum latches a.latched ++ flag a.moved ++ u8 a.settle ++ u16 l.lastRaw ++ flag l.lastSenseOpen ++
  enum readingClasses l.lastClass

/-- READ_SCAN as the unit takes it (R110). -/
def reqReadScan (row : Nat) (s : State) : State × Answer :=
  match valueOf letters row with
  | none => refuse .range s
  | some l =>
    let u := s.lamps
    okWith (enum scanStates u.scanState ++ enum scanModes u.scanMode ++ u8 u.filter ++ u8 u.threshold ++
      u8 u.slotIndex ++ u16 u.frameSequence.toNat ++ flag u.dimChanged ++ u32 u.lastZeroCross ++
      (allGroups.flatMap fun g => scanAspectBytes u.scan[coreOf g l] u.lamps[coreOf g l]) ++ clockBytes s) s

/-- The configuration that a WRITE_LAMP brings for an aspect, none when an argument is outside its range (R1, R111, R121,
R172). -/
def lampConfig (groupType : GroupType) (letter : Letter) (fitted type bright dim leak tolerance frozen : Nat) :
    Option LampConfig := do
  let t ← valueOf lampTypes type
  let z ← flagArg frozen
  if within 0 4 fitted && !(decide (0 < fitted) && notFitted groupType letter) &&
     within (referenceFloor t) 65520 bright && within (referenceFloor t) 65520 dim && within 0 200 leak then
    return { fitted := fitted, type := t, bright := bright, dim := dim, leak := leak, tolerance := clamp 1 8 tolerance,
             frozen := z }
  else none

/-- A lamp record under a new configuration, its counts and runs restarted (R121). -/
def Lamp.rewrite (k : LampConfig) (l : Lamp) : Lamp :=
  { l with
    fitted := k.fitted
    type := k.type
    bright := k.bright
    dim := k.dim
    leak := k.leak
    tolerance := k.tolerance
    frozen := k.frozen
    candidate := k.fitted
    proven := k.fitted
    candidateRun := 0
    doubtfulRun := 0
    unexpectedRun := 0
    overloadRun := 0
    quietRun := 0
    learn := .none }

/-- An accepted WRITE_LAMP (R99, R121, R136, R137). -/
def State.writeLamp (c : CoreId) (k : LampConfig) (s : State) : State :=
  let before := s.fitted c
  let s := s.onLamps fun u => LampUnit.forget c { u with lamps := change u.lamps c (Lamp.rewrite k) }
  let s := ((s.clear .lampUncertain (.aspect c)).clear .lampOverload (.aspect c)).clear .unexpectedCurrent (.aspect c)
  if k.fitted = before then s else s.fittedChanged c

/-- WRITE_LAMP as the unit takes it (R121). -/
def reqWriteLamp (aspect fitted type bright dim leak tolerance frozen : Nat) (s : State) : State × Answer :=
  if s.saving then refuse .busy s
  else match coreNumber aspect with
    | none => refuse .range s
    | some c =>
      match lampConfig (s.typeOf (groupOf c)) (letterOf c) fitted type bright dim leak tolerance frozen with
      | some k => okay (s.writeLamp c k)
      | none => refuse .range s

/-- An accepted LEARN (R99, R120). -/
def LampUnit.beginLearn (c : CoreId) (u : LampUnit) : LampUnit :=
  LampUnit.forget c { u with lamps := change u.lamps c fun l => { l with learn := .darkPending } }

/-- LEARN as the unit takes it (R120). -/
def reqLearn (aspect : Nat) (s : State) : State × Answer :=
  match coreNumber aspect with
  | none => refuse .range s
  | some c =>
    if s.fitted c == 0 || rowLeftOut s.lamps.scanMode (letterOf c) then refuse .range s
    else okay (s.onLamps (LampUnit.beginLearn c))

/-- A lamp record as READ_LAMP sends it (R111, R172). -/
def lampBytes (l : Lamp) : List Byte :=
  u8 l.fitted ++ enum lampTypes l.type ++ u16 l.bright ++ u16 l.dim ++ u8 l.leak ++ u8 l.tolerance ++ flag l.frozen ++
  u8 l.candidate ++ u8 l.candidateRun ++ u8 l.proven ++ u8 l.doubtfulRun ++ u8 l.unexpectedRun ++ u8 l.overloadRun ++
  u8 l.quietRun ++ u16 l.lastRaw ++ flag l.lastSenseOpen ++ u16 l.lastNet ++ enum readingClasses l.lastClass ++
  enum learnStates l.learn ++ flag l.redLossDeclared

/-- READ_LAMP as the unit takes it (R127); the active reference is sent as 0 for bright and 1 for dim (log 11). -/
def reqReadLamp (aspect : Nat) (s : State) : State × Answer :=
  match coreNumber aspect with
  | none => refuse .range s
  | some c =>
    okWith (lampBytes s.lamps.lamps[c] ++ flag s.engine.dimOn ++ u8 s.lamps.filter ++
      u16 s.lamps.frameSequence.toNat ++ clockBytes s) s

/-- WRITE_SCAN (R102). -/
def execWriteScan (scanMode filter threshold : Nat) (s : State) : Host.Outcome State Fault Refusal :=
  .next (serve 28 .plan s (reqWriteScan scanMode filter threshold))

/-- READ_SNAPSHOT (R109). -/
def execReadSnapshot (p : Port) (s : State) : Host.Outcome State Fault Refusal := .next (serve 29 p s reqReadSnapshot)

/-- READ_SCAN (R110). -/
def execReadScan (p : Port) (row : Nat) (s : State) : Host.Outcome State Fault Refusal :=
  .next (serve 30 p s (reqReadScan row))

/-- WRITE_LAMP (R121). -/
def execWriteLamp (aspect fitted type bright dim leak tolerance frozen : Nat) (s : State) :
    Host.Outcome State Fault Refusal :=
  .next (serve 31 .plan s (reqWriteLamp aspect fitted type bright dim leak tolerance frozen))

/-- LEARN (R120). -/
def execLearn (aspect : Nat) (s : State) : Host.Outcome State Fault Refusal :=
  .next (serve 32 .maintenance s (reqLearn aspect))

/-- READ_LAMP (R127). -/
def execReadLamp (p : Port) (aspect : Nat) (s : State) : Host.Outcome State Fault Refusal :=
  .next (serve 33 p s (reqReadLamp aspect))

end Sys2Proof.Machine
end

