-- ==== Sys2Proof/Machine/CableRequests.lean ====
section
/-! DEFINITION. The requests on cable testing: TEST_ENABLE and TEST_DISABLE (R131), TEST_SET and TEST_INTERVAL (R132),
TEST_START_CYCLIC and TEST_STOP (R133), TEST_CORE (R135), CLEAR_CABLE (R144), READ_CABLE and READ_TEST_UNIT (R145). -/

namespace Sys2Proof.Machine

/-- The unit is enabled: the interval is counted from now (R131). -/
def CableUnit.enable (now : Clock) (u : CableUnit) : CableUnit :=
  { u with enabled := true, lastTestEnd := now, intervalPassed := false, intervalTimer := true }

/-- TEST_ENABLE as the unit takes it (R131). -/
def reqTestEnable (s : State) : State × Answer :=
  if s.saving then refuse .busy s
  else if s.cable.enabled then okay s
  else okay (State.select (s.onCable (CableUnit.enable s.nowMs)))

/-- The record of a test that TEST_DISABLE cuts off: effects 1 and 2 of R141 (R131). -/
def CableUnit.cutOff (now : Clock) (u : CableUnit) : CableUnit :=
  match u.flight with
  | some f => { u with records := change u.records f.core (CableRecord.interrupt now) }
  | none => u

/-- The unit is disabled: the test in flight, the queue and cyclic running are given up and the interval timer stops
(R131). It stops in IDLE and WAITING as it does in TESTING and STOPPING, where alone R131 names it (DEDUCED, log 15). -/
def CableUnit.disable (now : Clock) (u : CableUnit) : CableUnit :=
  { u.cutOff now with
    flight := none
    queue := []
    cyclicRunning := false
    stopWaiting := false
    enabled := false
    intervalTimer := false }

/-- TEST_DISABLE as the unit takes it (R131). -/
def reqTestDisable (s : State) : State × Answer :=
  if s.saving then refuse .busy s
  else if !s.cable.enabled then okay s
  else okay (State.settleUnit (s.onCable (CableUnit.disable s.nowSec)))

/-- The members of a set of cores that are fitted now (R132). -/
def State.fittedOnly (s : State) (cores : CoreSet) : CoreSet :=
  Vector.ofFn fun c => cores[c] && decide (0 < s.fitted c)

/-- TEST_SET as the unit takes it (R132). -/
def reqTestSet (cores : CoreSet) (s : State) : State × Answer :=
  if s.saving then refuse .busy s
  else
    okWith (coreSetBytes (s.fittedOnly cores))
      (State.select (s.onCable fun u => { u with testSet := s.fittedOnly cores }))

/-- Whether the test interval has run since the last test end (R129, R132). -/
def CableUnit.intervalRun (u : CableUnit) (now : Clock) : Bool := decide (1000 * u.interval ≤ elapsed now u.lastTestEnd)

/-- A new test interval, measured from the last test end (R132): interval passed is set when it has already run and
cleared when it has not, and the timer then runs on. In a disabled unit the timer stands still, as R131 stops it
(DEDUCED, log 15). -/
def CableUnit.setInterval (now : Clock) (seconds : Nat) (u : CableUnit) : CableUnit :=
  let u := { u with interval := max 1 seconds }
  { u with intervalPassed := u.intervalRun now, intervalTimer := u.enabled && !u.intervalRun now }

/-- TEST_INTERVAL as the unit takes it (R132). -/
def reqTestInterval (seconds : Nat) (s : State) : State × Answer :=
  if s.saving then refuse .busy s
  else if 60 < seconds then refuse .range s
  else okay (State.select (s.onCable (CableUnit.setInterval s.nowMs seconds)))

/-- TEST_START_CYCLIC as the unit takes it (R133). -/
def reqTestStartCyclic (s : State) : State × Answer :=
  let u := s.cable
  if !u.enabled then refuse .wrongMode s
  else if u.flight.isSome && u.stopWaiting then
    okay (State.settleUnit (s.onCable fun u => { u with stopWaiting := false }))
  else if u.cyclicRunning then refuse .busy s
  else if s.saving then refuse .busy s
  else okay (State.select (s.onCable fun u => { u with cyclicRunning := true }))

/-- TEST_STOP as the unit takes it (R133). -/
def reqTestStop (s : State) : State × Answer :=
  if s.saving then refuse .busy s
  else if !(s.cable.enabled && s.cable.cyclicRunning) then okay s
  else if s.cable.flight.isSome then okay (State.settleUnit (s.onCable fun u => { u with stopWaiting := true }))
  else okay (State.select (s.onCable fun u => { u with cyclicRunning := false }))

/-- TEST_CORE as the unit takes it (R135). -/
def reqTestCore (core : Nat) (s : State) : State × Answer :=
  if !s.cable.enabled then refuse .wrongMode s
  else match coreNumber core with
    | none => refuse .range s
    | some c =>
      if s.fitted c = 0 then refuse .range s
      else if s.cable.queued c then okay s
      else if 8 ≤ s.cable.queue.length then refuse .queueFull s
      else okay (s.enqueue c .request)

/-- CLEAR_CABLE as the unit takes it (R144). -/
def reqClearCable (core : Nat) (s : State) : State × Answer :=
  match coreNumber core with
  | none => refuse .range s
  | some c =>
    let s := s.onCable fun u => { u with records := put u.records c CableRecord.fresh }
    okay ((s.clear .cableAsymmetric (.core c)).clear .cableNoWindow (.core c))

/-- A cable record as READ_CABLE sends it (R143, R172). -/
def cableBytes (r : CableRecord) : List Byte :=
  enum cableClasses r.cls ++ i16 r.positive ++ i16 r.negative ++ i16 r.leakage ++ i16 r.offset ++ i16 r.worst ++
  u16 r.done ++ u8 r.interrupted ++ u32 r.lastTest

/-- READ_CABLE as the unit takes it (R145). -/
def reqReadCable (core : Nat) (s : State) : State × Answer :=
  match coreNumber core with
  | none => refuse .range s
  | some c => okWith (cableBytes s.cable.records[c] ++ u8 (s.fitted c) ++ enum aspectCommands (s.command c)) s

/-- A queue entry as READ_TEST_UNIT sends it (R134, R145). -/
def queueBytes (e : QueueEntry) : List Byte :=
  coreByte e.core ++ enum queueOrigins e.origin ++ u32 e.waitStart ++ flag e.seenEligible ++ flag e.underTest

/-- The test in flight as READ_TEST_UNIT sends it, with L+ when it has been taken (R138, R145). -/
def flightBytes (f : Flight) : List Byte :=
  coreByte f.core ++ enum testSources f.source ++ enum testPhases f.phase ++ u32 f.start ++
  (match f.positive with
   | some x => i16 x
   | none => [])

/-- READ_TEST_UNIT as the unit takes it (R145). DEDUCED (log 11): the queue entries, the test in flight and its L+ are
sent one after another as they are there, with no count and no flag for one that is absent, since R172 adds no byte to
the fields of a response; and the test interval, a number 1 to 60, is one byte and not a time of four. -/
def reqReadTestUnit (s : State) : State × Answer :=
  let u := s.cable
  okWith (enum unitStates u.unitState ++ flag u.enabled ++ flag u.cyclicRunning ++ flag u.stopWaiting ++
    coreSetBytes u.testSet ++ u8 u.interval ++ u8 u.pointer ++ u32 u.lastTestEnd ++ flag u.intervalPassed ++
    u.queue.flatMap queueBytes ++
    (match u.flight with
     | some f => flightBytes f
     | none => []) ++ clockBytes s) s

/-- TEST_ENABLE (R131). -/
def execTestEnable (s : State) : Host.Outcome State Fault Refusal := .next (serve 34 .maintenance s reqTestEnable)

/-- TEST_DISABLE (R131). -/
def execTestDisable (s : State) : Host.Outcome State Fault Refusal := .next (serve 35 .maintenance s reqTestDisable)

/-- TEST_SET (R132). -/
def execTestSet (cores : CoreSet) (s : State) : Host.Outcome State Fault Refusal :=
  .next (serve 36 .maintenance s (reqTestSet cores))

/-- TEST_INTERVAL (R132). -/
def execTestInterval (seconds : Nat) (s : State) : Host.Outcome State Fault Refusal :=
  .next (serve 37 .maintenance s (reqTestInterval seconds))

/-- TEST_START_CYCLIC (R133). -/
def execTestStartCyclic (s : State) : Host.Outcome State Fault Refusal :=
  .next (serve 38 .maintenance s reqTestStartCyclic)

/-- TEST_STOP (R133). -/
def execTestStop (s : State) : Host.Outcome State Fault Refusal := .next (serve 39 .maintenance s reqTestStop)

/-- TEST_CORE (R135). -/
def execTestCore (core : Nat) (s : State) : Host.Outcome State Fault Refusal :=
  .next (serve 40 .maintenance s (reqTestCore core))

/-- CLEAR_CABLE (R144). -/
def execClearCable (core : Nat) (s : State) : Host.Outcome State Fault Refusal :=
  .next (serve 41 .maintenance s (reqClearCable core))

/-- READ_CABLE (R145). -/
def execReadCable (p : Port) (core : Nat) (s : State) : Host.Outcome State Fault Refusal :=
  .next (serve 42 p s (reqReadCable core))

/-- READ_TEST_UNIT (R145). -/
def execReadTestUnit (p : Port) (s : State) : Host.Outcome State Fault Refusal := .next (serve 43 p s reqReadTestUnit)

end Sys2Proof.Machine
end

