-- ==== Sys2Proof/Machine/QualifierUnit.lean ====
section
/-! DEFINITION. The Qualifier Unit (R146 to R155): comparisons, combine rules, counting and firing, and the requests
WRITE_QUALIFIER, ARM, DISARM and READ_QUALIFIER. -/

namespace Sys2Proof.Machine

/-- Whether a comparator is true of a value (R148). -/
def Comparator.holds (k : Comparator) (value : Int) : Bool :=
  match k.condition with
  | .above => decide (k.limit < value)
  | .below => decide (value < k.limit)
  | .equal => decide (value = k.limit)
  | .notEqual => decide (value ≠ k.limit)

/-- What the combine rule makes of one evaluation: whether it is an event, and the two seen flags after it (R149). -/
def Qualifier.combined (q : Qualifier) (a b : Bool) : Bool × Bool × Bool :=
  match q.combine with
  | .aAndB => (a && b, q.aSeen, q.bSeen)
  | .aOrB => (a || b, q.aSeen, q.bSeen)
  | .bAfterA => if b && q.aSeen then (true, false, q.bSeen) else (false, q.aSeen || a, q.bSeen)
  | .aAfterB => if a && q.bSeen then (true, q.aSeen, false) else (false, q.aSeen, q.bSeen || b)

/-- A qualifier after one evaluation, and whether it fired (R148 to R150). -/
def Qualifier.evaluate (value : Int) (q : Qualifier) : Qualifier × Bool :=
  let (isEvent, aSeen, bSeen) := q.combined (q.a.holds value) (q.b.holds value)
  let q := { q with aSeen := aSeen, bSeen := bSeen }
  if !isEvent then (q, false)
  else if 0 < q.remaining then ({ q with remaining := q.remaining - 1 }, false)
  else ({ q with state := .fired }, true)

/-- The request that an action sends the engine (R151). -/
def actionMessages (action : QualifierAction) : List Instr :=
  match action with
  | .report => []
  | .hold => [.qualifierHold]
  | .flash => [.qualifierFlash]

/-- One qualifier is evaluated at a value: when it fires, QUALIFIER_FIRED is raised and its action taken (R150, R151). -/
def State.evaluateAt (s : State) (n : QualId) (value : Int) : State :=
  let r := s.quals[n].evaluate value
  let s' := s.onQuals fun v => put v n r.1
  if r.2 then (s'.raise .qualifierFired (.qualifier n)).send (actionMessages s.quals[n].action) else s'

/-- One qualifier at a result: evaluated while ARMED and when the result gives its source a value (R147). -/
def State.evaluate (value : Qualifier → Option Int) (s : State) (n : QualId) : State :=
  match s.quals[n].state, value s.quals[n] with
  | .armed, some x => s.evaluateAt n x
  | _, _ => s

/-- A result is evaluated by qualifiers 1 to 4 in turn (R147). -/
def State.evaluateAll (value : Qualifier → Option Int) (s : State) : State :=
  (List.finRange 4).foldl (State.evaluate value) s

/-- The value a frame result gives a qualifier (R147). -/
def frameValue (results : Vector AspectResult 64) (q : Qualifier) : Option Int :=
  let r := results[q.subject]
  match q.source, r.cls with
  | .lampNet, .lit => some r.net
  | .lampNet, .darkOk => some r.net
  | .lampProven, .lit => some r.proven
  | _, _ => none

/-- The value a cable result gives a qualifier (R147). -/
def cableValue (c : CoreId) (cls : CableClass) (leakage offset : Int) (q : Qualifier) : Option Int :=
  if q.subject = c ∧ (cls = .valid ∨ cls = .asymmetric) then
    match q.source with
    | .cableLeakage => some leakage
    | .cableOffset => some offset
    | .lampNet | .lampProven => none
  else none

/-- A comparator a WRITE_QUALIFIER brings; a limit is never refused (R146, R154). -/
def comparatorArg (k : ComparatorArgs) : Option Comparator := do
  let c ← valueOf conditions k.condition
  return { limit := k.limit, condition := c }

/-- The configuration a WRITE_QUALIFIER brings, none when an argument is outside its range (R154). -/
def qualifierConfig (args : QualifierArgs) : Option QualifierConfig := do
  let source ← valueOf qualifierSources args.source
  let subject ← coreNumber args.subject
  let a ← comparatorArg args.a
  let b ← comparatorArg args.b
  let combine ← valueOf combineRules args.combine
  let action ← valueOf qualifierActions args.action
  if within 1 255 args.count then
    return { source := source, subject := subject, a := a, b := b, combine := combine, count := args.count,
             action := action }
  else none

/-- A qualifier under a new configuration, its running fields kept (R154). -/
def Qualifier.rewrite (k : QualifierConfig) (q : Qualifier) : Qualifier :=
  { q with
    source := k.source
    subject := k.subject
    a := k.a
    b := k.b
    combine := k.combine
    count := k.count
    action := k.action }

/-- WRITE_QUALIFIER as the unit takes it (R154). -/
def reqWriteQualifier (qualifier : Nat) (args : QualifierArgs) (s : State) : State × Answer :=
  if s.saving then refuse .busy s
  else match qualifierNumber qualifier, qualifierConfig args with
    | some n, some k =>
      if s.quals[n].state = .armed then refuse .armed s
      else okay (s.onQuals fun v => change v n (Qualifier.rewrite k))
    | _, _ => refuse .range s

/-- A qualifier is armed: its count starts afresh and its sequence is forgotten (R152). -/
def Qualifier.arm (q : Qualifier) : Qualifier :=
  { q with remaining := q.count - 1, aSeen := false, bSeen := false, state := .armed }

/-- ARM as the unit takes it (R152). -/
def reqArm (qualifier : Nat) (s : State) : State × Answer :=
  match qualifierNumber qualifier with
  | none => refuse .range s
  | some n => okay ((s.onQuals fun v => change v n Qualifier.arm).clear .qualifierFired (.qualifier n))

/-- DISARM as the unit takes it (R153). -/
def reqDisarm (qualifier : Nat) (s : State) : State × Answer :=
  match qualifierNumber qualifier with
  | none => refuse .range s
  | some n => okay (s.onQuals fun v => change v n fun q => { q with state := .idle })

/-- A comparator as READ_QUALIFIER and the image hold it (R146, R172). -/
def comparatorBytes (k : Comparator) : List Byte := i16 k.limit ++ enum conditions k.condition

/-- A qualifier record as READ_QUALIFIER sends it (R146, R172). -/
def qualifierBytes (q : Qualifier) : List Byte :=
  enum qualifierSources q.source ++ coreByte q.subject ++ comparatorBytes q.a ++ comparatorBytes q.b ++
  enum combineRules q.combine ++ u8 q.count ++ enum qualifierActions q.action ++ u8 q.remaining ++ flag q.aSeen ++
  flag q.bSeen ++ enum qualifierStates q.state

/-- READ_QUALIFIER as the unit takes it (R155). -/
def reqReadQualifier (qualifier : Nat) (s : State) : State × Answer :=
  match qualifierNumber qualifier with
  | none => refuse .range s
  | some n => okWith (qualifierBytes s.quals[n] ++ clockBytes s) s

/-- WRITE_QUALIFIER (R154). -/
def execWriteQualifier (qualifier : Nat) (args : QualifierArgs) (s : State) : Host.Outcome State Fault Refusal :=
  .next (serve 44 .maintenance s (reqWriteQualifier qualifier args))

/-- ARM (R152). -/
def execArm (qualifier : Nat) (s : State) : Host.Outcome State Fault Refusal :=
  .next (serve 45 .maintenance s (reqArm qualifier))

/-- DISARM (R153). -/
def execDisarm (qualifier : Nat) (s : State) : Host.Outcome State Fault Refusal :=
  .next (serve 46 .maintenance s (reqDisarm qualifier))

/-- READ_QUALIFIER (R155). -/
def execReadQualifier (p : Port) (qualifier : Nat) (s : State) : Host.Outcome State Fault Refusal :=
  .next (serve 47 p s (reqReadQualifier qualifier))

/-- LAMP_FRAME_RESULT (R147). -/
def execLampFrameResult (results : Vector AspectResult 64) (s : State) : Host.Outcome State Fault Refusal :=
  .next (event s fun s => (s.taking (.lampFrameResult results)).evaluateAll (frameValue results))

/-- CABLE_RESULT (R147). -/
def execCableResult (c : CoreId) (cls : CableClass) (leakage offset : Int) (s : State) :
    Host.Outcome State Fault Refusal :=
  .next (event s fun s =>
    (s.taking (.cableResult c cls leakage offset)).evaluateAll (cableValue c cls leakage offset))

end Sys2Proof.Machine
end

