-- ==== Sys2Proof/Machine/RecordRequests.lean ====
section
/-! DEFINITION. The fault table's and the stage history's commands: ACK_FAULT (R161), CLEAR_OVERFLOW (R160), READ_FAULTS
(R163), READ_HISTORY and SEEK_HISTORY (R165), and the raises, clears and entries other blocks send (R157, R158, R164). -/

namespace Sys2Proof.Machine

/-- The records an ACK_FAULT names: one key, or every record for ALL (R161, R172); none for an argument that is refused. -/
def ackTarget (kind subject : Nat) : Option (FaultRecord → Bool) :=
  if kind = 255 then (if subject = 0 then some fun _ => true else none)
  else do
    let k ← valueOf faultKinds kind
    let x ← subjectFor k subject
    return FaultRecord.hasKey k x

/-- ACK_FAULT as the table takes it: the response counts the records kept and those removed (R161). -/
def reqAckFault (kind subject : Nat) (s : State) : State × Answer :=
  match ackTarget kind subject with
  | none => refuse .range s
  | some which =>
    let named := s.faults.records.filter which
    okWith (u8 (named.filter fun r => r.state == .active).length ++
        u8 (named.filter fun r => r.state == .inactive).length)
      (s.onFaults (FaultTable.acknowledge which))

/-- CLEAR_OVERFLOW as the table takes it (R160). -/
def reqClearOverflow (s : State) : State × Answer :=
  okWith (u8 s.faults.overflow) (s.onFaults fun t => FaultTable.make t.records 0)

/-- The 13 bytes of a fault record at a position (R172). -/
def faultBytes (position : Nat) (r : FaultRecord) : List Byte :=
  u8 position ++ enum faultKinds r.kind ++ u8 (subjectByte r.subject) ++
  u8 (bitsToNat [r.state == .active, r.acknowledged]) ++ u32 r.firstSeen ++ u32 r.lastSeen ++ u8 r.occurrences

/-- Records with their positions, from a position on. -/
def numberedFaults : Nat → List FaultRecord → List Byte
  | _, [] => []
  | k, r :: rest => faultBytes k r ++ numberedFaults (k + 1) rest

/-- READ_FAULTS as the table takes it (R163). -/
def reqReadFaults (position : Nat) (s : State) : State × Answer :=
  if !within 1 32 position then refuse .range s
  else
    okWith (u8 s.faults.records.length ++ u8 s.faults.overflow ++ flag s.faults.line ++
      numberedFaults position ((s.faults.records.drop (position - 1)).take 6) ++ clockBytes s) s

/-- The last byte of a history entry: a hold cause, a mode, or 0 (R172). -/
def detailBytes : EntryDetail → List Byte
  | .none => u8 0
  | .cause c => enum holdCauses c
  | .mode m => enum modes m

/-- The 17 bytes of a history entry (R172). -/
def historyBytes (e : HistoryEntry) : List Byte :=
  u16 e.sequence.toNat ++ u32 e.time ++ enum entryKinds e.kind ++ planByte e.plan ++ u8 e.fromStage ++ u8 e.toStage ++
  u16 e.cycleAt ++ u8 e.duration ++ groupSetBytes e.withheld ++ flag e.substituted ++ detailBytes e.detail

/-- What a READ_HISTORY returns at a cursor: the entry and the missed count, none when the cursor is past the newest
entry (R165). -/
def History.readAt (h : History) (cursor : BitVec 16) : Option (HistoryEntry × Nat) :=
  let d := (h.next - cursor).toNat
  if d = 0 then none
  else if d ≤ h.ring.length then (h.ring[h.ring.length - d]?).map fun e => (e, 0)
  else h.ring.head?.map fun e => (e, (e.sequence - cursor).toNat)

/-- A port's cursor is moved (R165). -/
def History.seek (p : Port) (cursor : BitVec 16) (h : History) : History := { h with cursors := h.cursors.put p cursor }

/-- READ_HISTORY as the history takes it (R165). -/
def reqReadHistory (p : Port) (s : State) : State × Answer :=
  match s.history.readAt (s.history.cursors.at p) with
  | none => refuse .empty s
  | some (e, missed) =>
    okWith (u16 missed ++ historyBytes e) (s.onHistory (History.seek p (e.sequence + 1#16)))

/-- The sequence number of the oldest held entry, or the next one when the ring is empty (R165). -/
def History.oldest (h : History) : BitVec 16 :=
  match h.ring with
  | e :: _ => e.sequence
  | [] => h.next

/-- SEEK_HISTORY as the history takes it (R165). -/
def reqSeekHistory (p : Port) (s : State) : State × Answer :=
  okWith (u8 s.history.ring.length) (s.onHistory fun h => h.seek p h.oldest)

/-- ACK_FAULT (R161). -/
def execAckFault (p : Port) (kind subject : Nat) (s : State) : Host.Outcome State Fault Refusal :=
  .next (serve 48 p s (reqAckFault kind subject))

/-- CLEAR_OVERFLOW (R160). -/
def execClearOverflow (s : State) : Host.Outcome State Fault Refusal :=
  .next (serve 49 .maintenance s reqClearOverflow)

/-- READ_FAULTS (R163). -/
def execReadFaults (p : Port) (position : Nat) (s : State) : Host.Outcome State Fault Refusal :=
  .next (serve 50 p s (reqReadFaults position))

/-- READ_HISTORY (R165). -/
def execReadHistory (p : Port) (s : State) : Host.Outcome State Fault Refusal :=
  .next (serve 51 p s (reqReadHistory p))

/-- SEEK_HISTORY (R165). -/
def execSeekHistory (p : Port) (s : State) : Host.Outcome State Fault Refusal :=
  .next (serve 52 p s (reqSeekHistory p))

/-- FAULT_RAISE (R157); a raise whose subject does not suit its kind is none that a block makes. -/
def execFaultRaise (kind : FaultKind) (subject : Subject) (s : State) : Host.Outcome State Fault Refusal :=
  .next (event s fun s => if suits kind subject then s.raise kind subject else s)

/-- FAULT_CLEAR (R158). -/
def execFaultClear (kind : FaultKind) (subject : Subject) (s : State) : Host.Outcome State Fault Refusal :=
  .next (event s fun s => s.clear kind subject)

/-- HISTORY_ENTRY (R164). -/
def execHistoryEntry (item : HistoryItem) (s : State) : Host.Outcome State Fault Refusal :=
  .next (event s fun s => s.record item)

end Sys2Proof.Machine
end

