-- ==== Sys2Proof/Machine/EngineEvents.lean ====
section
/-! DEFINITION. The events of the Signal Group Engine and the Plan Sequencer: the decisecond step and what it times (R12,
R24), the tick (R68), the messages the engine takes (R29, R31, R50, R123), the panel (R38), the contactor feedback (R18)
and the sync input (R83, R85). -/

namespace Sys2Proof.Machine

/-! ## Steps and timed events -/

/-- DECISECOND_STEP (R12). -/
def execDecisecondStep (s : State) : Host.Outcome State Fault Refusal := .next (event s State.decisecond)

/-- TIMED_STATE_EXIT (R8 to R10, R12). -/
def execTimedStateExit (g : GroupId) (s : State) : Host.Outcome State Fault Refusal :=
  .next (event s (State.timedExit g))

/-- FLASH_PHASE_END (R24). -/
def execFlashPhaseEnd (s : State) : Host.Outcome State Fault Refusal :=
  .next (event s fun s => if s.engine.flashPhaseOver then (s.onEngine Engine.beginAllRed).present else s)

/-- ALL_RED_PHASE_END (R24). -/
def execAllRedPhaseEnd (s : State) : Host.Outcome State Fault Refusal :=
  .next (event s fun s => if s.engine.allRedPhaseOver then s.beginRun.present else s)

/-- SEQUENCER_TICK (R68). -/
def execSequencerTick (s : State) : Host.Outcome State Fault Refusal :=
  .next (event s fun s => (s.taking .sequencerTick).tick)

/-- Whether an application has nothing left to apply (R89, R90). -/
def Correction.spent (c : Correction) : Bool := c.state == .applying && c.remaining == 0

/-- CORRECTION_SPENT (R89, R90): the record becomes NONE when nothing of K remains; a tick does this itself. -/
def execCorrectionSpent (s : State) : Host.Outcome State Fault Refusal :=
  .next (event s fun s =>
    if s.seq.correction.spent then s.onSeq fun q => { q with correction := q.correction.drop } else s)

/-- SYNC_WATCH_EXPIRY (R92). -/
def execSyncWatchExpiry (s : State) : Host.Outcome State Fault Refusal :=
  .next (event s fun s => if s.watchOver then s.expireWatch else s)

/-! ## Messages to the engine -/

/-- STAGE_REQUEST (R50, R55). -/
def execStageRequest (request : StageRequest) (s : State) : Host.Outcome State Fault Refusal :=
  .next (event s fun s => ((s.taking (.stageRequest request)).takeRequest request).present)

/-- STEP_COUNT_HOLD (R31, R37). A hold on its way is taken even when a RUN_STEPS has renewed the budget after the
completion that sent it (DESIGN CHOICE, log 29). -/
def execStepCountHold (budgetPort : BudgetPort) (s : State) : Host.Outcome State Fault Refusal :=
  .next (event s fun s => (s.taking (.stepCountHold budgetPort)).takeHold .stepCount budgetPort)

/-- The engine takes a red-loss change of a group: red_lost becomes the declared flag as it stands now, and inhibition is
recomputed; a change that finds the two equal alters nothing (R57, R58, R123). -/
def State.takeRedLoss (g : GroupId) (s : State) : State :=
  let declared := s.lamps.lamps[coreOf g .R].redLossDeclared
  if s.engine.groups[g].redLost = declared then s
  else
    let s := s.onEngine fun e => { e with groups := change e.groups g fun r => { r with redLost := declared } }
    s.inhibitionEvent.present

/-- RED_LOSS_CHANGE (R123). -/
def execRedLossChange (g : GroupId) (s : State) : Host.Outcome State Fault Refusal :=
  .next (event s fun s => (s.taking (.redLossChange g)).takeRedLoss g)

/-- CONFLICT_OBSERVED_DECLARATION (R29, R125). -/
def execConflictObservedDeclaration (g : GroupId) (s : State) : Host.Outcome State Fault Refusal :=
  .next (event s fun s => (s.taking (.conflictObservedDeclaration g)).enterSupplyOff false)

/-- QUALIFIER_FLASH (R29, R151). -/
def execQualifierFlash (s : State) : Host.Outcome State Fault Refusal :=
  .next (event s fun s => (s.taking .qualifierFlash).enterFlash)

/-- QUALIFIER_HOLD (R31, R151). -/
def execQualifierHold (s : State) : Host.Outcome State Fault Refusal :=
  .next (event s fun s => (s.taking .qualifierHold).takeHold .qualifier .none)

/-! ## The door panel -/

/-- One panel input is changed. -/
def Engine.onPanel (input : PanelSwitch) (f : PanelInput → PanelInput) (e : Engine) : Engine :=
  match input with
  | .hand => { e with hand := f e.hand }
  | .step => { e with stepButton := f e.stepButton }

/-- A raw level is taken: its 50 ms timer runs while the raw level differs from the debounced one (R38). -/
def PanelInput.takeRaw (now : Clock) (on : Bool) (i : PanelInput) : PanelInput :=
  if i.raw = on then i
  else { i with raw := on, timer := if on = i.debounced then none else some now }

/-- Whether an input's 50 ms timer runs towards a level (R38). -/
def PanelInput.turning (on : Bool) (i : PanelInput) : Bool := i.timer.isSome && i.raw == on && i.debounced != on

/-- The debounced level takes the raw level (R38). -/
def PanelInput.settle (i : PanelInput) : PanelInput := { i with debounced := i.raw, timer := none }

/-- PANEL_RAW_CHANGE (R38). While the image is loaded the level is only followed, and no timer runs (R174). -/
def execPanelRawChange (input : PanelSwitch) (on : Bool) (s : State) : Host.Outcome State Fault Refusal :=
  .next (s.onEngine (Engine.onPanel input fun i =>
    if s.loading then { i with raw := on } else i.takeRaw s.nowMs on))

/-- HAND turns on: a hold with cause PANEL (R38). -/
def State.handOn (s : State) : State :=
  if s.engine.hand.turning true then (s.onEngine (Engine.onPanel .hand PanelInput.settle)).takeHold .panel .none else s

/-- HAND turns off: a PANEL hold is released, and a pending one given up (R38). -/
def State.handOff (s : State) : State :=
  if s.engine.hand.turning false then
    let s := s.onEngine (Engine.onPanel .hand PanelInput.settle)
    match s.engine.mode with
    | .held => if s.engine.hold.cause = .panel then s.leaveHeld.present else s
    | .run =>
      if s.engine.hold.pending = true ∧ s.engine.hold.pendingCause = .panel then
        s.onEngine fun e => { e with hold := e.hold.unpend }
      else s
    | .dark | .start | .flash | .supplyOff => s
  else s

/-- STEP is pressed: a STEP without a stage index, dropped when it would be refused (R38). -/
def State.stepPress (s : State) : State :=
  if s.engine.stepButton.turning true then
    let s := s.onEngine (Engine.onPanel .step PanelInput.settle)
    match s.takeStep none with
    | .ok t => t
    | .error _ => s
  else s

/-- STEP is released: only the debounced level moves (R38). -/
def State.stepRelease (s : State) : State :=
  if s.engine.stepButton.turning false then s.onEngine (Engine.onPanel .step PanelInput.settle) else s

/-- HAND_ON (R38). -/
def execHandOn (s : State) : Host.Outcome State Fault Refusal := .next (event s State.handOn)

/-- HAND_OFF (R38). -/
def execHandOff (s : State) : Host.Outcome State Fault Refusal := .next (event s State.handOff)

/-- STEP_PRESS (R35, R38). -/
def execStepPress (s : State) : Host.Outcome State Fault Refusal := .next (event s State.stepPress)

/-- STEP_TURNING_OFF (R38). -/
def execStepTurningOff (s : State) : Host.Outcome State Fault Refusal := .next (event s State.stepRelease)

/-! ## The contactor feedback -/

/-- CONTACTOR_FEEDBACK_CHANGE (R18). -/
def execContactorFeedbackChange (closed : Bool) (s : State) : Host.Outcome State Fault Refusal :=
  .next (if s.loading then s.onEngine fun e => { e with feedbackClosed := closed }
         else s.contactorChange fun e => { e with feedbackClosed := closed })

/-- The 500 ms of disagreement have passed: CONTACTOR is raised (R18). -/
def State.contactorExpiry (s : State) : State :=
  if s.engine.contactorTimer.isSome then
    (s.onEngine fun e => { e with contactorTimer := none }).raise .contactor .none
  else s

/-- CONTACTOR_TIMER_EXPIRY (R18). -/
def execContactorTimerExpiry (s : State) : Host.Outcome State Fault Refusal := .next (event s State.contactorExpiry)

/-! ## The sync input -/

/-- The input rises: from LOW the filter enters RISING and its 20 ms timer starts (R83). -/
def SyncRecord.rise (now : Clock) (y : SyncRecord) : SyncRecord :=
  match y.filter with
  | .low => { y with input := true, filter := .rising, timer := some now }
  | .rising | .high => { y with input := true }

/-- The input falls: the filter enters LOW and a running timer is cancelled (R83). From HIGH too, at once, as R83's table
has it, so that 20 ms high after a low spike inside a pulse count a second pulse, although R83 also says that such a spike
leaves no trace (DEDUCED, log 32). -/
def SyncRecord.fall (y : SyncRecord) : SyncRecord := { y with input := false, filter := .low, timer := none }

/-- SYNC_INPUT_RISE (R83). While the image is loaded the level is only followed (R83, R174). -/
def execSyncInputRise (s : State) : Host.Outcome State Fault Refusal :=
  .next (s.onSeq fun q =>
    { q with sync := if s.loading then { q.sync with input := true } else q.sync.rise s.nowMs })

/-- SYNC_INPUT_FALL (R83). -/
def execSyncInputFall (s : State) : Host.Outcome State Fault Refusal :=
  .next (s.onSeq fun q => { q with sync := if s.loading then { q.sync with input := false } else q.sync.fall })

/-- The 20 ms timer of RISING expires: HIGH, and a counted pulse occurs (R83, R85). -/
def State.filterExpiry (s : State) : State :=
  if s.seq.sync.filter = .rising then
    State.pulse (s.onSeq fun q => { q with sync := { q.sync with filter := .high, timer := none } })
  else s

/-- COUNTED_PULSE (R83, R85). -/
def execCountedPulse (s : State) : Host.Outcome State Fault Refusal := .next (event s State.filterExpiry)

end Sys2Proof.Machine
end

