-- ==== Sys2Proof/Machine/UnitEvents.lean ====
section
/-! DEFINITION. The events of the Lamp Proving Unit (R98 to R100, R104, R126) and of the Cable Test Unit (R136 to
R142). -/

namespace Sys2Proof.Machine

/-! ## Lamp Proving Unit -/

/-- ZERO_CROSS with the readings of the slot that ends (R95, R97, R98). -/
def execZeroCross (readings : Vector Reading 16) (s : State) : Host.Outcome State Fault Refusal :=
  .next (event s (State.zeroCrossEdge readings))

/-- SCAN_SUSPEND: the 50 ms zero-cross timer expires (R100). -/
def execScanSuspend (s : State) : Host.Outcome State Fault Refusal :=
  .next (event s fun s => if s.lamps.scanState = .scanning then s.onLamps LampUnit.suspend else s)

/-- ASPECT_LEVEL_CHANGE: the aspect's moved flag is set (R99). The level itself is read at the slot start. -/
def execAspectLevelChange (c : CoreId) (lit : Bool) (s : State) : Host.Outcome State Fault Refusal :=
  .next (event s fun s => (s.taking (.aspectLevelChange c lit)).onLamps fun u =>
    { u with scan := change u.scan c fun a => { a with moved := true } })

/-- DIM_CHANGE: the dim changed flag is set (R104). -/
def execDimChange (on : Bool) (s : State) : Host.Outcome State Fault Refusal :=
  .next (event s fun s => (s.taking (.dimChange on)).onLamps fun u => { u with dimChanged := true })

/-- A block is told the junction mode (R20). The Lamp Proving Unit keeps it (R125, R126); what the sequencer and the
Cable Test Unit do at a change of mode is part of the event that makes the change (R24, R28, R128; log 10). -/
def State.takeModeNotice (block : NoticeBlock) (mode : Mode) (s : State) : State :=
  match block with
  | .lampUnit => s.onLamps fun u => { u with toldMode := mode }
  | .sequencer | .cableUnit => s

/-- JUNCTION_MODE_NOTICE (R20, R126). -/
def execJunctionModeNotice (block : NoticeBlock) (mode : Mode) (s : State) : Host.Outcome State Fault Refusal :=
  .next (event s fun s => (s.taking (.junctionModeNotice block mode)).takeModeNotice block mode)

/-! ## Cable Test Unit -/

/-- LAMP_OUT_DECLARATION (R136). -/
def execLampOutDeclaration (c : CoreId) (s : State) : Host.Outcome State Fault Refusal :=
  .next (event s fun s => (s.taking (.lampOutDeclaration c)).declared c .lampOut)

/-- RED_LOST_DECLARATION (R136). -/
def execRedLostDeclaration (c : CoreId) (s : State) : Host.Outcome State Fault Refusal :=
  .next (event s fun s => (s.taking (.redLostDeclaration c)).declared c .redLost)

/-- The unit takes a change of an aspect's command: at a change to OFF the entry for its core has its seen eligible flag
set, and a selection is made (R137). -/
def State.commandChanged (c : CoreId) (command : AspectCommand) (s : State) : State :=
  let s := if command = .off then s.onCable fun u => { u with queue := markSeen (fun x => x == c) u.queue } else s
  s.select

/-- ASPECT_COMMAND_CHANGE (R137). -/
def execAspectCommandChange (c : CoreId) (command : AspectCommand) (s : State) : Host.Outcome State Fault Refusal :=
  .next (event s fun s => (s.taking (.aspectCommandChange c command)).commandChanged c command)

/-- ENERGISE_NOTICE for a core that is about to be lit, and so is out of the selection that follows an abort (R7,
R141). -/
def execEnergiseNotice (c : CoreId) (s : State) : Host.Outcome State Fault Refusal :=
  .next (event s fun s => s.notice (fun x => s.eligible x && x != c) c)

/-- The interval timer expires: interval passed is set and a selection made (R137). -/
def State.intervalExpiry (s : State) : State :=
  if s.cable.intervalTimer then
    State.select (s.onCable fun u => { u with intervalPassed := true, intervalTimer := false })
  else s

/-- INTERVAL_EXPIRY (R137). -/
def execIntervalExpiry (s : State) : Host.Outcome State Fault Refusal := .next (event s State.intervalExpiry)

/-- The first phase timer expires, its 200 ms having run: L+ is read, the polarity reversed and the second timer started
(R138). -/
def State.positiveEnd (current : Int) (s : State) : State :=
  match s.cable.flight with
  | some f =>
    if f.phase = .positive ∧ f.phaseOver s.nowMs = true then
      s.onCable fun u =>
        { u with flight := some { f with phase := .negative, phaseStart := s.nowMs, positive := some (railed current) } }
    else s
  | none => s

/-- POSITIVE_PHASE_END with the core's current (R138). -/
def execPositivePhaseEnd (current : Int) (s : State) : Host.Outcome State Fault Refusal :=
  .next (event s (State.positiveEnd current))

/-- The second phase timer expires, its 200 ms having run: L− is read and the test completes (R138 to R140). -/
def State.negativeEnd (current : Int) (s : State) : State :=
  match s.cable.flight with
  | some f => if f.phase = .negative ∧ f.phaseOver s.nowMs = true then s.completeTest f (railed current) else s
  | none => s

/-- TEST_COMPLETION with the core's current (R138 to R140). -/
def execTestCompletion (current : Int) (s : State) : Host.Outcome State Fault Refusal :=
  .next (event s (State.negativeEnd current))

/-- The 120 s wait of the entry for a core expires, when it has one that is not under test (R142). -/
def State.waitExpiry (c : CoreId) (s : State) : State :=
  match s.cable.queue.find? (fun e => e.core == c) with
  | some e => if e.underTest then s else s.waitExpired e
  | none => s

/-- WAIT_LIMIT_EXPIRY (R142). -/
def execWaitLimitExpiry (c : CoreId) (s : State) : Host.Outcome State Fault Refusal :=
  .next (event s (State.waitExpiry c))

end Sys2Proof.Machine
end

