-- ==== Sys2Proof/Machine/Image.lean ====
section
/-! DEFINITION. The configuration image (R172, R173): the fields a save copies, their bytes section by section with the
header and the CRC-16, the writes of a save (R175), and the judging and reading of an image as a load does (R174). -/

namespace Sys2Proof.Machine

/-! ## The stored fields -/

/-- A copy of every stored field as it stands (R173, R175). -/
def State.image (s : State) : Image where
  scanMode := s.lamps.scanMode
  filter := s.lamps.filter
  threshold := s.lamps.threshold
  matrix := s.conflicts.matrix
  intergreens := s.conflicts.intergreens
  groups := mapBank (fun (g : Group) =>
    { type := g.type, minGreen := g.minGreen, redAmber := g.redAmber, amber := g.amber, clearance := g.clearance,
      minRed := g.minRed }) s.engine.groups
  lamps := mapBank (fun (l : Lamp) =>
    { fitted := l.fitted, type := l.type, bright := l.bright, dim := l.dim, leak := l.leak, tolerance := l.tolerance,
      frozen := l.frozen }) s.lamps.lamps
  plans := s.seq.plans
  substs := s.seq.substs
  qualifiers := mapBank (fun (q : Qualifier) =>
    { source := q.source, subject := q.subject, a := q.a, b := q.b, combine := q.combine, count := q.count,
      action := q.action }) s.quals
  cableEnabled := s.cable.enabled
  cyclicRunning := s.cable.cyclicRunning
  testSet := s.cable.testSet
  interval := s.cable.interval
  startFlash := s.engine.startFlash
  allRed := s.engine.allRed

/-! ## CRC-16 -/

/-- The CRC register after one bit, most significant bit first, polynomial 0x1021 (R173). -/
def crcBit (crc : BitVec 16) (bit : Bool) : BitVec 16 :=
  if crc.msb != bit then (crc <<< 1) ^^^ 0x1021#16 else crc <<< 1

/-- The CRC register after one byte. -/
def crcByte (crc : BitVec 16) (b : Byte) : BitVec 16 :=
  [7, 6, 5, 4, 3, 2, 1, 0].foldl (fun r k => crcBit r (b.getLsbD k)) crc

/-- The CRC-16 of a list of bytes: initial value 0xFFFF, no final inversion (R173). -/
def crc16 (bytes : List Byte) : BitVec 16 := bytes.foldl crcByte 0xFFFF#16

/-- The CRC as the image holds it, high byte first (R173). -/
def crcBytes (crc : BitVec 16) : List Byte := [BitVec.ofNat 8 (crc.toNat / 256), BitVec.ofNat 8 crc.toNat]

/-! ## Writing the sections -/

/-- The configuration fields of a group (section 5 of R173). -/
def groupConfigBytes (g : GroupConfig) : List Byte :=
  enum groupTypes g.type ++ u16 g.minGreen ++ u8 g.redAmber ++ u8 g.amber ++ u16 g.clearance ++ u8 g.minRed

/-- The configuration fields of an aspect (section 6). -/
def lampConfigBytes (l : LampConfig) : List Byte :=
  u8 l.fitted ++ enum lampTypes l.type ++ u16 l.bright ++ u16 l.dim ++ u8 l.leak ++ u8 l.tolerance ++ flag l.frozen

/-- The twelve stage records of a plan as the image holds them, those past its stage count being 0 (R172). -/
def planBank (count : Nat) (stage : Fin 12 → Stage) : Vector Stage 12 :=
  Vector.ofFn fun k => if k.val < count then stage k else Stage.zero

/-- A plan record with all twelve stage records and its validity (section 7, R172). -/
def planBytes (p : Plan) : List Byte :=
  u16 p.cycle ++ u16 p.offset ++ flag p.sync ++ flag p.dim ++ u8 p.count ++
  (planBank p.count fun k => p.stages[k]).toList.flatMap stageBytes ++
  enum validities p.validity

/-- The configuration fields of a qualifier (section 9). -/
def qualifierConfigBytes (q : QualifierConfig) : List Byte :=
  enum qualifierSources q.source ++ coreByte q.subject ++ comparatorBytes q.a ++ comparatorBytes q.b ++
  enum combineRules q.combine ++ u8 q.count ++ enum qualifierActions q.action

/-- Sections 2 to 11 (R173). The test interval, a number 1 to 60, is one byte and not a time of four (DEDUCED, log
11). -/
def Image.sections (m : Image) : List Byte :=
  enum scanModes m.scanMode ++ u8 m.filter ++ u8 m.threshold ++
  m.matrix.toList.flatMap groupSetBytes ++
  m.intergreens.toList.flatMap (fun row => row.toList) ++
  m.groups.toList.flatMap groupConfigBytes ++
  m.lamps.toList.flatMap lampConfigBytes ++
  m.plans.toList.flatMap planBytes ++
  m.substs.toList.flatMap substBytes ++
  m.qualifiers.toList.flatMap qualifierConfigBytes ++
  flag m.cableEnabled ++ flag m.cyclicRunning ++ coreSetBytes m.testSet ++ u8 m.interval ++
  u16 m.startFlash ++ u16 m.allRed

/-- The length in bytes that the sections require, header and CRC included (R173, R174). -/
def imageLength : Nat := 2103

/-- The header of an image: a marker and the image length (R173; its layout: DESIGN CHOICE, log 13). -/
def imageHeader (marker : Marker) : List Byte := enum markers marker ++ u16 imageLength

/-- The CRC-16 over every byte before it, as the whole image holds it (R173). -/
def Image.crc (m : Image) : List Byte := crcBytes (crc16 (imageHeader .complete ++ m.sections))

/-- A whole image with its marker COMPLETE (R173). -/
def Image.bytes (m : Image) : List Byte := imageHeader .complete ++ m.sections ++ m.crc

/-- The writes of a save, in their order: the header INCOMPLETE, sections 2 to 11, the CRC, the header COMPLETE (R175). -/
def Image.writes (m : Image) : List StoreWrite :=
  [{ place := 0, bytes := imageHeader .incomplete },
   { place := 3, bytes := m.sections },
   { place := imageLength - 2, bytes := m.crc },
   { place := 0, bytes := imageHeader .complete }]

/-! ## Reading the sections

Each field is read at its own place, so that one field's bytes decide that field alone. -/

/-- The field at a place of an image. Bytes outside the field's range give it no value that the manual states, so the field
is then formed from the free number of log 13 by `free`, which reaches every value of the range. -/
def fieldAt {α : Type} (place size : Nat) (r : Reader α) (free : Nat → α) (image : List Byte) : α :=
  let bytes := (image.drop place).take size
  match r bytes with
  | some (x, _) => x
  | none => free (Config.imageField place bytes)

/-- A flag at a place. -/
def flagAt (place : Nat) : List Byte → Bool := fieldAt place 1 rdFlag fun n => n % 2 == 1

/-- An enumerated field at a place; `first` is the first of its values. -/
def enumAt {α : Type} (place : Nat) (values : List α) (first : α) : List Byte → α :=
  fieldAt place 1 (rdEnum values) fun n => values.getD (n % values.length) first

/-- A one-byte number within a range at a place. -/
def byteAt (place lo hi : Nat) : List Byte → Nat := fieldAt place 1 (rdIn lo hi rdU8) fun n => lo + n % (hi + 1 - lo)

/-- A two-byte number within a range at a place. -/
def wordAt (place lo hi : Nat) : List Byte → Nat := fieldAt place 2 (rdIn lo hi rdU16) fun n => lo + n % (hi + 1 - lo)

/-- A signed number at a place: every two bytes are one. -/
def signedAt (place : Nat) : List Byte → Int := fieldAt place 2 rdI16 fun n => (BitVec.ofNat 16 n).toInt

/-- A bit map of n members at a place: every n / 8 bytes are one. -/
def bitsAt (place n : Nat) : List Byte → Vector Bool n :=
  fieldAt place (n / 8) (rdBits n) fun k => Vector.ofFn fun i => k.testBit i.val

/-- A matrix that is symmetric with a false diagonal (R40). -/
def rdMatrix : Reader (Vector GroupSet 16) := fun bs => do
  let (m, bs) ← rdBank (rdBits 16) 16 bs
  if matrixSound m then return (m, bs) else none

/-- The matrix of a number: symmetric, with a false diagonal (R40). -/
def matrixOf (n : Nat) : Vector GroupSet 16 := Vector.ofFn fun i => Vector.ofFn fun j =>
  decide (i ≠ j) && n.testBit (16 * min i.val j.val + max i.val j.val)

/-- A timing of a group at a place, in the range of the group's type (R14). -/
def timingAt (place size : Nat) (type : GroupType) (timing : Timing) : List Byte → Nat :=
  let range := timingLimits type timing
  if size = 1 then byteAt place range.1 range.2 else wordAt place range.1 range.2

/-- A group's configuration at a place (R14). -/
def groupConfigAt (place : Nat) (image : List Byte) : GroupConfig :=
  let t := enumAt place groupTypes .unused image
  { type := t
    minGreen := timingAt (place + 1) 2 t .minGreen image
    redAmber := timingAt (place + 3) 1 t .redAmber image
    amber := timingAt (place + 4) 1 t .amber image
    clearance := timingAt (place + 5) 2 t .clearance image
    minRed := timingAt (place + 7) 1 t .minRed image }

/-- An aspect's configuration at a place (R111). Its fitted count is the image's, also where the group's type marks the
aspect not fitted (R1, R174; DESIGN CHOICE, log 33). -/
def lampConfigAt (place : Nat) (image : List Byte) : LampConfig :=
  let t := enumAt (place + 1) lampTypes .filament image
  { fitted := byteAt place 0 4 image
    type := t
    bright := wordAt (place + 2) (referenceFloor t) 65520 image
    dim := wordAt (place + 4) (referenceFloor t) 65520 image
    leak := byteAt (place + 6) 0 200 image
    tolerance := byteAt (place + 7) 1 8 image
    frozen := flagAt (place + 8) image }

/-- A stage record at a place. -/
def stageAt (place : Nat) (image : List Byte) : Stage where
  set := bitsAt place 16 image
  endPoint := wordAt (place + 2) 0 65535 image
  stageMin := wordAt (place + 4) 0 65535 image
  stageMax := wordAt (place + 6) 0 65535 image
  demandDependent := flagAt (place + 8) image
  elastic := flagAt (place + 9) image

/-- A plan record at a place, its ranges not yet judged. The stage records past its stage count are no stages of the
plan, and are 0 whatever their bytes read (R172). -/
def planRecordAt (place : Nat) (image : List Byte) : Plan where
  cycle := wordAt place 0 65535 image
  offset := wordAt (place + 2) 0 65535 image
  sync := flagAt (place + 4) image
  dim := flagAt (place + 5) image
  count := byteAt (place + 6) 0 12 image
  stages := planBank (byteAt (place + 6) 0 12 image) fun k => stageAt (place + 7 + 10 * k.val) image
  validity := enumAt (place + 127) validities .invalid image

/-- Whether a plan record is one the part could hold: a VALID one meets the ranges of R61. -/
def Plan.storable (p : Plan) : Bool :=
  p.validity == .invalid || planInRange p.cycle p.offset (p.stages.toList.take p.count)

/-- A plan record at a place. The ranges of a VALID plan bind its fields together (R61), so a VALID record outside them
is formed whole from the free numbers of log 13; where those give no plan either it is INVALID, since a plan outside the
ranges may not be selected and run (DEDUCED, log 13). -/
def planAt (place : Nat) (image : List Byte) : Plan :=
  let p := planRecordAt place image
  let bytes := (image.drop place).take 128
  let free := planRecordAt 0 ((List.range 128).map fun k => BitVec.ofNat 8 (Config.imageField (place + k) bytes))
  if p.storable then p else if free.storable then free else { p with validity := .invalid }

/-- A substitution entry at a place (R79). -/
def substAt (place : Nat) (image : List Byte) : SubstEntry :=
  let least := wordAt (place + 4) 0 600 image
  { plan := fieldAt place 1 (rdIndex 8) (Fin.ofNat 8) image
    stage := byteAt (place + 1) 1 12 image
    set := bitsAt (place + 2) 16 image
    stageMin := least
    stageMax := wordAt (place + 6) least 1200 image
    demandFlag := flagAt (place + 8) image
    enabled := flagAt (place + 9) image }

/-- A comparator at a place (R146). -/
def comparatorAt (place : Nat) (image : List Byte) : Comparator where
  limit := signedAt place image
  condition := enumAt (place + 2) conditions .above image

/-- A qualifier's configuration at a place (R146). -/
def qualifierConfigAt (place : Nat) (image : List Byte) : QualifierConfig where
  source := enumAt place qualifierSources .cableLeakage image
  subject := fieldAt (place + 1) 1 (rdIndex 64) (Fin.ofNat 64) image
  a := comparatorAt (place + 2) image
  b := comparatorAt (place + 5) image
  combine := enumAt (place + 8) combineRules .aOrB image
  count := byteAt (place + 9) 1 255 image
  action := enumAt (place + 10) qualifierActions .report image

/-- The stored fields of an image, each at the place that the order of R173 and the sizes of R172 give it. Each is taken as
it reads: what the rules say of fields of two records together, such as the intergreen inequality of R15 and R41, is not
looked at (DESIGN CHOICE, log 33). -/
def readImage (image : List Byte) : Image where
  scanMode := enumAt 3 scanModes .fourRow image
  filter := byteAt 4 2 15 image
  threshold := byteAt 5 10 200 image
  matrix := fieldAt 6 32 rdMatrix matrixOf image
  intergreens := Vector.ofFn fun i => Vector.ofFn fun j => image.getD (38 + 16 * i.val + j.val) 0#8
  groups := Vector.ofFn fun g => groupConfigAt (294 + 8 * g.val) image
  lamps := Vector.ofFn fun c => lampConfigAt (422 + 9 * c.val) image
  plans := Vector.ofFn fun p => planAt (998 + 128 * p.val) image
  substs := Vector.ofFn fun e => substAt (2022 + 10 * e.val) image
  qualifiers := Vector.ofFn fun q => qualifierConfigAt (2042 + 11 * q.val) image
  cableEnabled := flagAt 2086 image
  cyclicRunning := flagAt 2087 image
  testSet := bitsAt 2088 64 image
  interval := byteAt 2096 1 60 image
  startFlash := wordAt 2097 0 600 image
  allRed := wordAt 2099 30 300 image

/-! ## Judging an image -/

/-- Whether an image is GOOD (R174): its marker is COMPLETE, its length is the one the sections require, and its CRC
matches. Memory that holds fewer bytes than that has no such image. -/
def imageGood (memory : List Byte) : Bool :=
  memory.take 3 == imageHeader .complete && decide (imageLength ≤ memory.length) &&
  ((memory.drop (imageLength - 2)).take 2 == crcBytes (crc16 (memory.take (imageLength - 2))))

/-- The judging of an image (R174): its stored fields when it is GOOD, none when it is BAD. -/
def judgeImage (memory : List Byte) : Option Image := if imageGood memory then some (readImage memory) else none

end Sys2Proof.Machine
end

