-- ==== Sys2Proof/Machine/StoreUnit.lean ====
section
/-! DEFINITION. The Store Controller (R173 to R177): power-on and the RESET line, the end of the load, SAVE_STORE and the
end of a save, and READ_STORE. What the external memory reads as comes with the events; what a save has written to it so
far stands in the store record (log 23). -/

namespace Sys2Proof.Machine

/-! ## Reset and load -/

/-- The levels of the part's input pins are its surroundings' and stand through a reset: the panel inputs, the contactor
feedback, the sync input and the two select lines (R18, R38, R83; log 6). -/
def State.keepPins (old : State) (s : State) : State :=
  let s := s.onEngine fun e =>
    { e with
      hand := { e.hand with raw := old.engine.hand.raw }
      stepButton := { e.stepButton with raw := old.engine.stepButton.raw }
      feedbackClosed := old.engine.feedbackClosed }
  let s := s.onSeq fun q => { q with sync := { q.sync with input := old.seq.sync.input } }
  s.onPorts fun v =>
    { plan := { v.plan with selected := old.ports.plan.selected }
      monitor := { v.monitor with selected := old.ports.monitor.selected }
      maintenance := { v.maintenance with selected := old.ports.maintenance.selected } }

/-- Power-on or the RESET line: every record at its reset value and the store LOADING (R174). Commands still waiting to
be given to the part are not the part's state and keep waiting, the model's count of expiries goes on (log 36), and the
external memory keeps what a save has written, whose remaining writes are not made (R176). -/
def State.restart (s : State) : State :=
  s.keepPins
    { State.reset with
      pending := s.pending
      expiries := s.expiries
      store := { State.reset.store with memory := s.store.memory } }

/-- POWER_ON_RESET (R174). -/
def execPowerOnReset (s : State) : Host.Outcome State Fault Refusal := .next s.restart

/-- The plan in force after a load: the lowest-numbered VALID plan, plan 1 when none is (R62). -/
def firstPlan (plans : Vector Plan 8) : PlanId :=
  ((List.finRange 8).find? fun p => plans[p].validity == .valid).getD 0

/-- The sequencer after a load: its running stage is stage 1 of the plan in force, and the sync filter takes the input's
level (R62, R67, R83). -/
def Sequencer.loaded (img : Image) (input : Bool) : Sequencer :=
  let q := Sequencer.reset img (firstPlan img.plans) RunningStage.initial
  { q with
    running := q.form 1
    sync := { q.sync with input := input, filter := if input then .high else .low } }

/-- The engine after a load: a raw panel level that is on starts its debounce, and feedback that reads closed starts the
disagreement timer (R18, R38). -/
def Engine.loaded (img : Image) (old : Engine) : Engine :=
  { Engine.reset img with
    hand := { raw := old.hand.raw, debounced := false, timer := if old.hand.raw then some 0#32 else none }
    stepButton :=
      { raw := old.stepButton.raw, debounced := false, timer := if old.stepButton.raw then some 0#32 else none }
    feedbackClosed := old.feedbackClosed
    contactorTimer := if old.feedbackClosed then some 0#32 else none }

/-- The end of the load (R174): stored fields from the image, running fields at their reset values, time from 0, the
store IDLE. -/
def State.loadedFrom (img : Image) (outcome : LoadOutcome) (s : State) : State :=
  { s with
    outbox := []
    uptimeMs := 0
    engine := Engine.loaded img s.engine
    conflicts := { matrix := img.matrix, intergreens := img.intergreens, stagedRows := [], stagedParts := 0 }
    seq := Sequencer.loaded img s.seq.sync.input
    lamps := LampUnit.reset img
    cable := CableUnit.reset img
    quals := Qualifier.resetAll img
    faults := FaultTable.empty
    history := History.empty
    store := { s.store with
      state := .idle, lastLoad := outcome, lastSave := .none, lastSaveTime := 0#32, copy := none, timer := 0,
      toWrite := [] } }

/-- A BAD load: every stored field at its failed-check default, and STORE_CHECK raised (R174). -/
def State.loadFailed (s : State) : State := (s.loadedFrom Image.default .bad).raise .storeCheck .none

/-- Whether the 2.5 s of a load or a save have not been passed (R174, R176). -/
def Store.inTime (r : Store) : Bool := decide (r.timer ≤ 2500)

/-- The external memory has been read: these are its bytes. -/
def State.memoryRead (memory : List Byte) (s : State) : State := s.onStore fun r => { r with memory := memory }

/-- STORE_LOAD_END with the bytes the memory holds (R174): the image is judged, and a load past its 2.5 s is BAD. -/
def execStoreLoadEnd (memory : List Byte) (s : State) : Host.Outcome State Fault Refusal :=
  .next (if s.loading then
      let t := s.memoryRead memory
      match judgeImage memory with
      | some img => if s.store.inTime then t.loadedFrom img .good else t.loadFailed
      | none => t.loadFailed
    else s)

/-- STORE_LOAD_TIMEOUT: 2.5 s have passed and the load is BAD (R174). -/
def execStoreLoadTimeout (s : State) : Host.Outcome State Fault Refusal :=
  .next (if s.loading then s.loadFailed else s)

/-! ## Save -/

/-- A save begins (R175): the copy is taken, its first write, the header INCOMPLETE, is made in the same event, and the
others are still to be made, in order. So a save cut off at any moment leaves a memory that reads INCOMPLETE until its last
write (R176; the moment of the first write: DESIGN CHOICE, log 23). -/
def Store.beginSave (m : Image) (r : Store) : Store :=
  { r with state := .saving, copy := some m, timer := 0, toWrite := m.writes.drop 1,
           memory := (m.writes.take 1).foldl StoreWrite.into r.memory }

/-- SAVE_STORE as the controller takes it (R175). -/
def reqSaveStore (s : State) : State × Answer :=
  if s.saving then refuse .busy s else okay (s.onStore (Store.beginSave s.image))

/-- A save ends (R176). -/
def State.saveEnds (outcome : SaveOutcome) (s : State) : State :=
  s.onStore fun r =>
    { r with state := .idle, lastSave := outcome, lastSaveTime := s.nowSec, copy := none, timer := 0, toWrite := [] }

/-- STORE_SAVE_END with the bytes read back after the last write (R175, R176): the save is GOOD when they pass as a load
would judge them, within 2.5 s of the request, and BAD otherwise. -/
def execStoreSaveEnd (memory : List Byte) (s : State) : Host.Outcome State Fault Refusal :=
  .next (if s.saving then
      let t := s.memoryRead memory
      if imageGood memory && s.store.inTime then (t.saveEnds .good).clear .storeCheck .none
      else (t.saveEnds .bad).raise .storeCheck .none
    else s)

/-- STORE_SAVE_TIMEOUT: 2.5 s have passed and the save is BAD (R176). -/
def execStoreSaveTimeout (s : State) : Host.Outcome State Fault Refusal :=
  .next (if s.saving then (s.saveEnds .bad).raise .storeCheck .none else s)

/-- READ_STORE as the controller takes it (R177). -/
def reqReadStore (s : State) : State × Answer :=
  okWith (enum storeStates s.store.state ++ enum loadOutcomes s.store.lastLoad ++ enum saveOutcomes s.store.lastSave ++
    u32 s.store.lastSaveTime ++ u16 imageLength ++ clockBytes s) s

/-- SAVE_STORE (R175). -/
def execSaveStore (s : State) : Host.Outcome State Fault Refusal := .next (serve 53 .plan s reqSaveStore)

/-- READ_STORE (R177). -/
def execReadStore (p : Port) (s : State) : Host.Outcome State Fault Refusal := .next (serve 54 p s reqReadStore)

end Sys2Proof.Machine
end

