-- ==== Sys2Proof/Machine/Frames.lean ====
section
/-! DEFINITION. The Port Interface (R166 to R172): request frames byte by byte, their tests, the reading of a request's
arguments, response frames, selections, and the five port events with the bytes and selections that lead to them. -/

namespace Sys2Proof.Machine

/-! ## The arguments of a request -/

/-- A payload read as a whole: what is read, provided that no byte is left over. -/
def whole {α : Type} (r : Reader α) (bs : List Byte) : Option α :=
  match r bs with
  | some (x, []) => some x
  | _ => none

/-- The arguments of WRITE_GROUP (R13). -/
def rdWriteGroup : Reader Instr := fun bs => do
  let (g, bs) ← rdU8 bs
  let (t, bs) ← rdU8 bs
  let (mg, bs) ← rdU16 bs
  let (ra, bs) ← rdU8 bs
  let (am, bs) ← rdU8 bs
  let (cl, bs) ← rdU16 bs
  let (mr, bs) ← rdU8 bs
  return (.writeGroup g t mg ra am cl mr, bs)

/-- A stage of WRITE_PLAN (R61, R63). -/
def rdStageArgs : Reader StageArgs := fun bs => do
  let (g, bs) ← rdBits 16 bs
  let (e, bs) ← rdU16 bs
  let (lo, bs) ← rdU16 bs
  let (hi, bs) ← rdU16 bs
  let (d, bs) ← rdU8 bs
  let (x, bs) ← rdU8 bs
  return ({ set := g, endPoint := e, stageMin := lo, stageMax := hi, demandDependent := d, elastic := x }, bs)

/-- Part 1 of WRITE_PLAN after its part number (R63). -/
def rdPlanPartOne : Reader PlanPart := fun bs => do
  let (p, bs) ← rdU8 bs
  let (c, bs) ← rdU16 bs
  let (o, bs) ← rdU16 bs
  let (sy, bs) ← rdU8 bs
  let (di, bs) ← rdU8 bs
  let (n, bs) ← rdU8 bs
  let (st, bs) ← rdMany rdStageArgs (min n 6) bs
  return (.one p c o sy di n st, bs)

/-- How many stages part 2 of WRITE_PLAN carries: stages 7 to n of the plan staged, or as many as the payload holds when
no plan of more than six stages is staged under that number (R63; DESIGN CHOICE, log 12). -/
def partTwoStages (staging : Option PlanStaging) (plan left : Nat) : Nat :=
  match staging with
  | some g => if g.plan.val + 1 = plan ∧ 6 < g.count then g.count - 6 else left / 10
  | none => left / 10

/-- Part 2 of WRITE_PLAN after its part number (R63). -/
def rdPlanPartTwo (staging : Option PlanStaging) : Reader PlanPart := fun bs => do
  let (p, bs) ← rdU8 bs
  let (st, bs) ← rdMany rdStageArgs (partTwoStages staging p bs.length) bs
  return (.two p st, bs)

/-- The arguments of WRITE_PLAN (R63). A part number that is neither 1 nor 2 fixes no length (DESIGN CHOICE, log 12). -/
def rdWritePlan (staging : Option PlanStaging) : Reader Instr := fun bs => do
  let (k, bs) ← rdU8 bs
  if k = 1 then
    let (p, bs) ← rdPlanPartOne bs
    return (.writePlan p, bs)
  else if k = 2 then
    let (p, bs) ← rdPlanPartTwo staging bs
    return (.writePlan p, bs)
  else return (.writePlan (.other k), [])

/-- The arguments of WRITE_SUBST (R80). -/
def rdWriteSubst : Reader Instr := fun bs => do
  let (e, bs) ← rdU8 bs
  let (p, bs) ← rdU8 bs
  let (k, bs) ← rdU8 bs
  let (g, bs) ← rdBits 16 bs
  let (lo, bs) ← rdU16 bs
  let (hi, bs) ← rdU16 bs
  let (d, bs) ← rdU8 bs
  return (.writeSubst e p k g lo hi d, bs)

/-- The arguments of WRITE_LAMP (R121). -/
def rdWriteLamp : Reader Instr := fun bs => do
  let (a, bs) ← rdU8 bs
  let (n, bs) ← rdU8 bs
  let (t, bs) ← rdU8 bs
  let (b, bs) ← rdU16 bs
  let (d, bs) ← rdU16 bs
  let (k, bs) ← rdU8 bs
  let (o, bs) ← rdU8 bs
  let (z, bs) ← rdU8 bs
  return (.writeLamp a n t b d k o z, bs)

/-- A comparator of WRITE_QUALIFIER (R154). -/
def rdComparatorArgs : Reader ComparatorArgs := fun bs => do
  let (x, bs) ← rdI16 bs
  let (c, bs) ← rdU8 bs
  return ({ limit := x, condition := c }, bs)

/-- The arguments of WRITE_QUALIFIER (R154). -/
def rdWriteQualifier : Reader Instr := fun bs => do
  let (q, bs) ← rdU8 bs
  let (s, bs) ← rdU8 bs
  let (c, bs) ← rdU8 bs
  let (a, bs) ← rdComparatorArgs bs
  let (b, bs) ← rdComparatorArgs bs
  let (r, bs) ← rdU8 bs
  let (n, bs) ← rdU8 bs
  let (x, bs) ← rdU8 bs
  return (.writeQualifier q { source := s, subject := c, a := a, b := b, combine := r, count := n, action := x }, bs)

/-- A request with no argument. -/
def rdNone (i : Instr) : Reader Instr := fun bs => some (i, bs)

/-- A request with one byte. -/
def rdOne (f : Nat → Instr) : Reader Instr := fun bs => do
  let (a, bs) ← rdU8 bs
  return (f a, bs)

/-- A request with two bytes. -/
def rdTwo (f : Nat → Nat → Instr) : Reader Instr := fun bs => do
  let (a, bs) ← rdU8 bs
  let (b, bs) ← rdU8 bs
  return (f a b, bs)

/-- A request with three bytes. -/
def rdThree (f : Nat → Nat → Nat → Instr) : Reader Instr := fun bs => do
  let (a, bs) ← rdU8 bs
  let (b, bs) ← rdU8 bs
  let (c, bs) ← rdU8 bs
  return (f a b c, bs)

/-- WRITE_START_TIMES (R25). -/
def rdStartTimes : Reader Instr := fun bs => do
  let (a, bs) ← rdU16 bs
  let (b, bs) ← rdU16 bs
  return (.writeStartTimes a b, bs)

/-- STEP, with no stage index or with one (R35, R172). -/
def rdStep (p : Port) : Reader Instr := fun bs =>
  match bs with
  | [] => some (.step p none, [])
  | k :: rest => some (.step p (some k.toNat), rest)

/-- WRITE_CONFLICTS (R43). -/
def rdWriteConflicts : Reader Instr := fun bs => do
  let (m, bs) ← rdBank (rdBits 16) 16 bs
  return (.writeConflicts m, bs)

/-- WRITE_INTERGREENS (R44). -/
def rdWriteIntergreens : Reader Instr := fun bs => do
  let (p, bs) ← rdU8 bs
  let (rows, bs) ← rdBank (rdBank rdByte 16) 4 bs
  return (.writeIntergreens p rows, bs)

/-- TEST_SET (R132). -/
def rdTestSet : Reader Instr := fun bs => do
  let (cores, bs) ← rdBits 64 bs
  return (.testSet cores, bs)

/-- How the payload of a request code is read (R171, R172); none for a code outside the table. -/
def requestReader (code : Nat) (p : Port) (staging : Option PlanStaging) : Option (Reader Instr) :=
  match code with
  | 1 => some rdWriteGroup
  | 2 => some (rdOne (.readGroup p))
  | 3 => some (rdNone .restart)
  | 4 => some rdStartTimes
  | 5 => some (rdNone .forceFlash)
  | 6 => some (rdNone .forceOff)
  | 7 => some (rdNone (.hold p))
  | 8 => some (rdNone (.resume p))
  | 9 => some (rdStep p)
  | 10 => some (rdOne (.runSteps p))
  | 11 => some (rdNone (.readMode p))
  | 12 => some rdWriteConflicts
  | 13 => some rdWriteIntergreens
  | 14 => some (rdNone (.readConflicts p))
  | 15 => some (rdOne (.readIntergreens p))
  | 16 => some (rdNone (.readInterstage p))
  | 17 => some (rdWritePlan staging)
  | 18 => some (rdTwo (.readPlan p))
  | 19 => some (rdOne .selectPlan)
  | 20 => some (rdOne .demand)
  | 21 => some (rdOne .extend)
  | 22 => some rdWriteSubst
  | 23 => some (rdOne .enableSubst)
  | 24 => some (rdOne .disableSubst)
  | 25 => some (rdNone (.readSubst p))
  | 26 => some (rdNone (.readSequence p))
  | 27 => some (rdNone (.readSync p))
  | 28 => some (rdThree .writeScan)
  | 29 => some (rdNone (.readSnapshot p))
  | 30 => some (rdOne (.readScan p))
  | 31 => some rdWriteLamp
  | 32 => some (rdOne .learn)
  | 33 => some (rdOne (.readLamp p))
  | 34 => some (rdNone .testEnable)
  | 35 => some (rdNone .testDisable)
  | 36 => some rdTestSet
  | 37 => some (rdOne .testInterval)
  | 38 => some (rdNone .testStartCyclic)
  | 39 => some (rdNone .testStop)
  | 40 => some (rdOne .testCore)
  | 41 => some (rdOne .clearCable)
  | 42 => some (rdOne (.readCable p))
  | 43 => some (rdNone (.readTestUnit p))
  | 44 => some rdWriteQualifier
  | 45 => some (rdOne .arm)
  | 46 => some (rdOne .disarm)
  | 47 => some (rdOne (.readQualifier p))
  | 48 => some (rdTwo (.ackFault p))
  | 49 => some (rdNone .clearOverflow)
  | 50 => some (rdOne (.readFaults p))
  | 51 => some (rdNone (.readHistory p))
  | 52 => some (rdNone (.seekHistory p))
  | 53 => some (rdNone .saveStore)
  | 54 => some (rdNone (.readStore p))
  | _ => none

/-- The request that a code and a payload spell; none when the payload's length is not the one the arguments require
(R167 test 4, R172). -/
def readRequest (code : Nat) (p : Port) (staging : Option PlanStaging) (payload : List Byte) : Option Instr :=
  match requestReader code p staging with
  | some r => whole r payload
  | none => none

/-! ## Handing a request to its block -/

/-- The state that an outcome leaves: every request is answered, so it is always the next state. -/
def settled (s : State) (o : Host.Outcome State Fault Refusal) : State :=
  match o with
  | .next t => t
  | _ => s

/-- A request is handed to the block that owns it, which takes and answers it in the same event (R167, R169). -/
def State.hand (i : Instr) (s : State) : State :=
  match i with
  | .writeGroup g t mg ra am cl mr => settled s (execWriteGroup g t mg ra am cl mr s)
  | .readGroup p g => settled s (execReadGroup p g s)
  | .restart => settled s (execRestart s)
  | .writeStartTimes a b => settled s (execWriteStartTimes a b s)
  | .forceFlash => settled s (execForceFlash s)
  | .forceOff => settled s (execForceOff s)
  | .hold p => settled s (execHold p s)
  | .resume p => settled s (execResume p s)
  | .step p k => settled s (execStep p k s)
  | .runSteps p n => settled s (execRunSteps p n s)
  | .readMode p => settled s (execReadMode p s)
  | .writeConflicts m => settled s (execWriteConflicts m s)
  | .writeIntergreens k rows => settled s (execWriteIntergreens k rows s)
  | .readConflicts p => settled s (execReadConflicts p s)
  | .readIntergreens p k => settled s (execReadIntergreens p k s)
  | .readInterstage p => settled s (execReadInterstage p s)
  | .writePlan part => settled s (execWritePlan part s)
  | .readPlan p n k => settled s (execReadPlan p n k s)
  | .selectPlan n => settled s (execSelectPlan n s)
  | .demand k => settled s (execDemand k s)
  | .extend x => settled s (execExtend x s)
  | .writeSubst e n k set lo hi d => settled s (execWriteSubst e n k set lo hi d s)
  | .enableSubst e => settled s (execEnableSubst e s)
  | .disableSubst e => settled s (execDisableSubst e s)
  | .readSubst p => settled s (execReadSubst p s)
  | .readSequence p => settled s (execReadSequence p s)
  | .readSync p => settled s (execReadSync p s)
  | .writeScan m f t => settled s (execWriteScan m f t s)
  | .readSnapshot p => settled s (execReadSnapshot p s)
  | .readScan p row => settled s (execReadScan p row s)
  | .writeLamp a n t b d k o z => settled s (execWriteLamp a n t b d k o z s)
  | .learn a => settled s (execLearn a s)
  | .readLamp p a => settled s (execReadLamp p a s)
  | .testEnable => settled s (execTestEnable s)
  | .testDisable => settled s (execTestDisable s)
  | .testSet cores => settled s (execTestSet cores s)
  | .testInterval n => settled s (execTestInterval n s)
  | .testStartCyclic => settled s (execTestStartCyclic s)
  | .testStop => settled s (execTestStop s)
  | .testCore c => settled s (execTestCore c s)
  | .clearCable c => settled s (execClearCable c s)
  | .readCable p c => settled s (execReadCable p c s)
  | .readTestUnit p => settled s (execReadTestUnit p s)
  | .writeQualifier q args => settled s (execWriteQualifier q args s)
  | .arm q => settled s (execArm q s)
  | .disarm q => settled s (execDisarm q s)
  | .readQualifier p q => settled s (execReadQualifier p q s)
  | .ackFault p k x => settled s (execAckFault p k x s)
  | .clearOverflow => settled s (execClearOverflow s)
  | .readFaults p k => settled s (execReadFaults p k s)
  | .readHistory p => settled s (execReadHistory p s)
  | .seekHistory p => settled s (execSeekHistory p s)
  | .saveStore => settled s (execSaveStore s)
  | .readStore p => settled s (execReadStore p s)
  | _ => s

/-! ## Frames -/

/-- The sum of some bytes modulo 256. -/
def byteSum (bs : List Byte) : Byte := bs.foldl (· + ·) 0#8

/-- The start byte of a request frame (R167). -/
def startByte : Byte := 0xA5#8

/-- The bytes of a response frame (R172): its check makes the sum from the request code on 0 modulo 256. -/
def Response.bytes (r : Response) : List Byte :=
  let body := [r.code, BitVec.ofNat 8 (codeOf statuses r.status + if r.overrun then 128 else 0),
               BitVec.ofNat 8 r.payload.length] ++ r.payload
  0x5A#8 :: body ++ [0#8 - byteSum body]

/-- Whether a partial frame now expects its length byte (R167). -/
def expectsLength (frame : List Byte) : Bool := frame.length == 2

/-- Whether a partial frame now expects its check byte (R167). -/
def expectsCheck (frame : List Byte) : Bool :=
  decide (3 ≤ frame.length) && frame.length == 3 + (frame.getD 2 0#8).toNat

/-- A complete frame is tested in the order of R167, and answered by the Port Interface or handed to its block. -/
def State.takeFrame (p : Port) (frame : List Byte) (s : State) : State :=
  let code := (frame.getD 1 0#8).toNat
  let payload := (frame.drop 3).take (frame.getD 2 0#8).toNat
  let answer (status : Status) : State := s.respond p code { status := status, payload := [] }
  if byteSum (frame.drop 1) ≠ 0#8 then answer .badCheck
  else if (rights code).isNone then answer .badRequest
  else if !permitted code p then answer .notPermitted
  else match readRequest code p s.seq.staging payload with
    | none => answer .badLength
    | some i => (s.onPort p fun r => { r with state := .pending, received := frame }).hand i

/-- A length above 96 (R167, R169): BAD_LENGTH is built at once and held while the port is DISCARDING. -/
def PortRecord.discard (r : PortRecord) : PortRecord :=
  { r.respond (r.received.getD 1 0#8) { status := .badLength, payload := [] } with state := .discarding }

/-- A byte of a frame that is gathered but not kept: at its check byte, and at a length above 96, overrun is set (R167). -/
def PortRecord.shadowByte (b : Byte) (r : PortRecord) : PortRecord :=
  if expectsLength r.shadow && decide (96 < b.toNat) then
    { r with overrun := true, shadow := [], ignoring := true }
  else if expectsCheck r.shadow then { r with overrun := true, shadow := [] }
  else { r with shadow := r.shadow ++ [b] }

/-- A byte arrives at a port that is not gathering a frame to be dropped (R167). -/
def State.frameByte (p : Port) (b : Byte) (s : State) : State :=
  let r := s.ports.at p
  match r.state with
  | .idle =>
    if b = startByte then s.onPort p fun r => { r with state := .receiving, received := [b] } else s
  | .receiving =>
    if expectsLength r.received && decide (96 < b.toNat) then s.onPort p PortRecord.discard
    else if expectsCheck r.received then s.takeFrame p (r.received ++ [b])
    else s.onPort p fun r => { r with received := r.received ++ [b] }
  | .discarding => s
  | .pending | .responding => if b = startByte then s.onPort p fun r => { r with shadow := [b] } else s

/-- The byte a clocked port shifts out while a byte is shifted in: the next one of its response in a selection that began
with it, and 0x00 otherwise (R170). -/
def PortRecord.shift (r : PortRecord) : PortRecord :=
  if r.sending then
    { r with dataOut := ((r.response.map Response.bytes).getD []).getD r.shifted 0#8, shifted := r.shifted + 1 }
  else { r with dataOut := 0#8 }

/-- Whether a port is a clocked one (R166). -/
def isClocked (p : Port) : Bool :=
  match p with
  | .plan | .monitor => true
  | .maintenance => false

/-- A byte arrives at a port (R167, R170). -/
def State.takeByte (p : Port) (b : Byte) (s : State) : State :=
  let s := s.onPort p fun r =>
    { (if isClocked p then r.shift else r) with lastByte := s.nowMs }
  let r := s.ports.at p
  if r.ignoring then s
  else if !r.shadow.isEmpty then s.onPort p (PortRecord.shadowByte b)
  else s.frameByte p b

/-- The partial frame a port is gathering, kept or not. -/
def PortRecord.partialFrame (r : PortRecord) : List Byte :=
  if r.ignoring then [] else if !r.shadow.isEmpty then r.shadow else if r.state = .receiving then r.received else []

/-- The end of a frame without completion (R168): a partial frame is discarded, DISCARDING becomes RESPONDING, a frame
gathered but not kept is dropped, and bytes are no longer ignored. -/
def PortRecord.endFrame (r : PortRecord) : PortRecord :=
  let r := { r with shadow := [], ignoring := false }
  match r.state with
  | .receiving => { r with state := .idle, received := [] }
  | .discarding => { r with state := .responding }
  | .idle | .pending | .responding => r

/-- A response has been taken: the port is IDLE (R170). -/
def PortRecord.taken (r : PortRecord) : PortRecord :=
  { r with state := .idle, response := none, sending := false, shifted := 0 }

/-- Whether the whole response has been shifted out in this selection (R170). -/
def PortRecord.sentWhole (r : PortRecord) : Bool :=
  r.state == .responding && r.sending && decide (((r.response.map Response.bytes).getD []).length ≤ r.shifted)

/-- Select is released (R168, R170). -/
def PortRecord.release (r : PortRecord) : PortRecord :=
  let sent := r.sentWhole
  let r := { r.endFrame with selected := false, sending := false, shifted := 0, dataOut := 0#8 }
  if sent then r.taken else r

/-- A selection starts: a response that waits is shifted out from its first byte, and the search for a start byte is
fresh (R168, R170). -/
def PortRecord.select (r : PortRecord) : PortRecord :=
  let r := r.endFrame
  { r with selected := true, sending := r.state == .responding, shifted := 0 }

/-- The ready line of a clocked port (R166). -/
def PortRecord.ready (r : PortRecord) : Bool := r.state == .responding

/-! ## The port events -/

/-- REQUEST_FRAME_COMPLETE: the check byte that a frame awaits arrives (R167). -/
def execRequestFrameComplete (p : Port) (check : Byte) (s : State) : Host.Outcome State Fault Refusal :=
  .next (event s fun s => if expectsCheck (s.ports.at p).partialFrame then s.takeByte p check else s)

/-- FRAME_LENGTH_OVER_96: the length byte that a frame awaits arrives and is above 96 (R167, R169). -/
def execFrameLengthOver96 (p : Port) (length : Byte) (s : State) : Host.Outcome State Fault Refusal :=
  .next (event s fun s =>
    if expectsLength (s.ports.at p).partialFrame && decide (96 < length.toNat) then s.takeByte p length else s)

/-- SELECT_RELEASE on a clocked port (R168, R170). -/
def execSelectRelease (p : Port) (s : State) : Host.Outcome State Fault Refusal :=
  .next (if !isClocked p then s
         else if s.loading then s.onPort p fun r => { r with selected := false }
         else s.onPort p PortRecord.release)

/-- MAINTENANCE_GAP_EXPIRY (R168). -/
def execMaintenanceGapExpiry (s : State) : Host.Outcome State Fault Refusal :=
  .next (event s fun s => s.onPort .maintenance PortRecord.endFrame)

/-- MAINTENANCE_RESPONSE_SENT (R170). -/
def execMaintenanceResponseSent (s : State) : Host.Outcome State Fault Refusal :=
  .next (event s fun s =>
    s.onPort .maintenance fun r => if r.state = .responding then r.taken else r)

/-- INCOMING_BYTE (R167). -/
def execIncomingByte (p : Port) (b : Byte) (s : State) : Host.Outcome State Fault Refusal :=
  .next (event s (State.takeByte p b))

/-- SELECTION_START on a clocked port (R170). -/
def execSelectionStart (p : Port) (s : State) : Host.Outcome State Fault Refusal :=
  .next (if !isClocked p then s
         else if s.loading then s.onPort p fun r => { r with selected := true }
         else s.onPort p PortRecord.select)

end Sys2Proof.Machine
end

