-- ==== Sys2Proof/Machine/Dispatch.lean ====
section
/-! DEFINITION. One arm for each command: the meaning it has. -/

namespace Sys2Proof.Machine

def exec (i : Instr) (s : State) : Host.Outcome State Fault Refusal :=
  match i with
  | .writeGroup group type minGreen redAmber amber clearance minRed => Sys2Proof.Machine.execWriteGroup group type minGreen redAmber amber clearance minRed s
  | .readGroup p group => Sys2Proof.Machine.execReadGroup p group s
  | .restart => Sys2Proof.Machine.execRestart s
  | .writeStartTimes startFlash allRed => Sys2Proof.Machine.execWriteStartTimes startFlash allRed s
  | .forceFlash => Sys2Proof.Machine.execForceFlash s
  | .forceOff => Sys2Proof.Machine.execForceOff s
  | .hold p => Sys2Proof.Machine.execHold p s
  | .resume p => Sys2Proof.Machine.execResume p s
  | .step p index => Sys2Proof.Machine.execStep p index s
  | .runSteps p n => Sys2Proof.Machine.execRunSteps p n s
  | .readMode p => Sys2Proof.Machine.execReadMode p s
  | .writeConflicts matrix => Sys2Proof.Machine.execWriteConflicts matrix s
  | .writeIntergreens part rows => Sys2Proof.Machine.execWriteIntergreens part rows s
  | .readConflicts p => Sys2Proof.Machine.execReadConflicts p s
  | .readIntergreens p part => Sys2Proof.Machine.execReadIntergreens p part s
  | .readInterstage p => Sys2Proof.Machine.execReadInterstage p s
  | .writePlan part => Sys2Proof.Machine.execWritePlan part s
  | .readPlan p plan part => Sys2Proof.Machine.execReadPlan p plan part s
  | .selectPlan plan => Sys2Proof.Machine.execSelectPlan plan s
  | .demand stage => Sys2Proof.Machine.execDemand stage s
  | .extend x => Sys2Proof.Machine.execExtend x s
  | .writeSubst entry plan stage set stageMin stageMax demandFlag => Sys2Proof.Machine.execWriteSubst entry plan stage set stageMin stageMax demandFlag s
  | .enableSubst entry => Sys2Proof.Machine.execEnableSubst entry s
  | .disableSubst entry => Sys2Proof.Machine.execDisableSubst entry s
  | .readSubst p => Sys2Proof.Machine.execReadSubst p s
  | .readSequence p => Sys2Proof.Machine.execReadSequence p s
  | .readSync p => Sys2Proof.Machine.execReadSync p s
  | .writeScan scanMode filter threshold => Sys2Proof.Machine.execWriteScan scanMode filter threshold s
  | .readSnapshot p => Sys2Proof.Machine.execReadSnapshot p s
  | .readScan p row => Sys2Proof.Machine.execReadScan p row s
  | .writeLamp aspect fitted type bright dim leak tolerance frozen => Sys2Proof.Machine.execWriteLamp aspect fitted type bright dim leak tolerance frozen s
  | .learn aspect => Sys2Proof.Machine.execLearn aspect s
  | .readLamp p aspect => Sys2Proof.Machine.execReadLamp p aspect s
  | .testEnable => Sys2Proof.Machine.execTestEnable s
  | .testDisable => Sys2Proof.Machine.execTestDisable s
  | .testSet cores => Sys2Proof.Machine.execTestSet cores s
  | .testInterval seconds => Sys2Proof.Machine.execTestInterval seconds s
  | .testStartCyclic => Sys2Proof.Machine.execTestStartCyclic s
  | .testStop => Sys2Proof.Machine.execTestStop s
  | .testCore core => Sys2Proof.Machine.execTestCore core s
  | .clearCable core => Sys2Proof.Machine.execClearCable core s
  | .readCable p core => Sys2Proof.Machine.execReadCable p core s
  | .readTestUnit p => Sys2Proof.Machine.execReadTestUnit p s
  | .writeQualifier qualifier args => Sys2Proof.Machine.execWriteQualifier qualifier args s
  | .arm qualifier => Sys2Proof.Machine.execArm qualifier s
  | .disarm qualifier => Sys2Proof.Machine.execDisarm qualifier s
  | .readQualifier p qualifier => Sys2Proof.Machine.execReadQualifier p qualifier s
  | .ackFault p kind subject => Sys2Proof.Machine.execAckFault p kind subject s
  | .clearOverflow => Sys2Proof.Machine.execClearOverflow s
  | .readFaults p position => Sys2Proof.Machine.execReadFaults p position s
  | .readHistory p => Sys2Proof.Machine.execReadHistory p s
  | .seekHistory p => Sys2Proof.Machine.execSeekHistory p s
  | .saveStore => Sys2Proof.Machine.execSaveStore s
  | .readStore p => Sys2Proof.Machine.execReadStore p s
  | .requestFrameComplete p check => Sys2Proof.Machine.execRequestFrameComplete p check s
  | .frameLengthOver96 p length => Sys2Proof.Machine.execFrameLengthOver96 p length s
  | .selectRelease p => Sys2Proof.Machine.execSelectRelease p s
  | .maintenanceGapExpiry => Sys2Proof.Machine.execMaintenanceGapExpiry s
  | .maintenanceResponseSent => Sys2Proof.Machine.execMaintenanceResponseSent s
  | .decisecondStep => Sys2Proof.Machine.execDecisecondStep s
  | .timedStateExit g => Sys2Proof.Machine.execTimedStateExit g s
  | .flashPhaseEnd => Sys2Proof.Machine.execFlashPhaseEnd s
  | .allRedPhaseEnd => Sys2Proof.Machine.execAllRedPhaseEnd s
  | .sequencerTick => Sys2Proof.Machine.execSequencerTick s
  | .correctionSpent => Sys2Proof.Machine.execCorrectionSpent s
  | .syncWatchExpiry => Sys2Proof.Machine.execSyncWatchExpiry s
  | .stageRequest request => Sys2Proof.Machine.execStageRequest request s
  | .stepCountHold budgetPort => Sys2Proof.Machine.execStepCountHold budgetPort s
  | .redLossChange g => Sys2Proof.Machine.execRedLossChange g s
  | .conflictObservedDeclaration g => Sys2Proof.Machine.execConflictObservedDeclaration g s
  | .qualifierFlash => Sys2Proof.Machine.execQualifierFlash s
  | .qualifierHold => Sys2Proof.Machine.execQualifierHold s
  | .panelRawChange input on => Sys2Proof.Machine.execPanelRawChange input on s
  | .handOn => Sys2Proof.Machine.execHandOn s
  | .handOff => Sys2Proof.Machine.execHandOff s
  | .stepPress => Sys2Proof.Machine.execStepPress s
  | .contactorFeedbackChange closed => Sys2Proof.Machine.execContactorFeedbackChange closed s
  | .contactorTimerExpiry => Sys2Proof.Machine.execContactorTimerExpiry s
  | .syncInputRise => Sys2Proof.Machine.execSyncInputRise s
  | .syncInputFall => Sys2Proof.Machine.execSyncInputFall s
  | .countedPulse => Sys2Proof.Machine.execCountedPulse s
  | .zeroCross readings => Sys2Proof.Machine.execZeroCross readings s
  | .scanSuspend => Sys2Proof.Machine.execScanSuspend s
  | .aspectLevelChange c lit => Sys2Proof.Machine.execAspectLevelChange c lit s
  | .dimChange on => Sys2Proof.Machine.execDimChange on s
  | .junctionModeNotice block mode => Sys2Proof.Machine.execJunctionModeNotice block mode s
  | .lampFrameResult results => Sys2Proof.Machine.execLampFrameResult results s
  | .cableResult c cls leakage offset => Sys2Proof.Machine.execCableResult c cls leakage offset s
  | .lampOutDeclaration c => Sys2Proof.Machine.execLampOutDeclaration c s
  | .redLostDeclaration c => Sys2Proof.Machine.execRedLostDeclaration c s
  | .aspectCommandChange c command => Sys2Proof.Machine.execAspectCommandChange c command s
  | .energiseNotice c => Sys2Proof.Machine.execEnergiseNotice c s
  | .intervalExpiry => Sys2Proof.Machine.execIntervalExpiry s
  | .positivePhaseEnd current => Sys2Proof.Machine.execPositivePhaseEnd current s
  | .testCompletion current => Sys2Proof.Machine.execTestCompletion current s
  | .waitLimitExpiry c => Sys2Proof.Machine.execWaitLimitExpiry c s
  | .faultRaise kind subject => Sys2Proof.Machine.execFaultRaise kind subject s
  | .faultClear kind subject => Sys2Proof.Machine.execFaultClear kind subject s
  | .historyEntry item => Sys2Proof.Machine.execHistoryEntry item s
  | .powerOnReset => Sys2Proof.Machine.execPowerOnReset s
  | .storeLoadEnd memory => Sys2Proof.Machine.execStoreLoadEnd memory s
  | .storeLoadTimeout => Sys2Proof.Machine.execStoreLoadTimeout s
  | .storeSaveEnd memory => Sys2Proof.Machine.execStoreSaveEnd memory s
  | .storeSaveTimeout => Sys2Proof.Machine.execStoreSaveTimeout s
  | .stepTurningOff => Sys2Proof.Machine.execStepTurningOff s
  | .incomingByte p b => Sys2Proof.Machine.execIncomingByte p b s
  | .selectionStart p => Sys2Proof.Machine.execSelectionStart p s

end Sys2Proof.Machine
end

