-- ==== Sys2Proof/Machine/Idle.lean ====
section
/-! DEFINITION. What the part does when no command waits (DESIGN CHOICE, log 4): the oldest message between blocks is
taken, else a timer that has run out expires, else one millisecond of crystal time passes. -/

namespace Sys2Proof.Machine

/-- Whether a timer that started at a time has run for some ms. -/
def State.ran (s : State) (ms : Nat) (start : Clock) : Bool := decide (ms ≤ elapsed s.nowMs start)

/-- Whether an optional timer runs and has run for some ms. -/
def State.ranFor (s : State) (ms : Nat) (timer : Option Clock) : Bool :=
  match timer with
  | some start => s.ran ms start
  | none => false

/-- The queue entry whose 120 s wait has run out, if there is one (R142). -/
def State.waitedOut (s : State) : Option QueueEntry :=
  s.cable.queue.find? fun e => !e.underTest && s.ran 120000 e.waitStart

/-- Whether the maintenance port awaits the end of a frame by a gap (R167, R168). -/
def PortRecord.awaitsGap (r : PortRecord) : Bool :=
  r.ignoring || !r.shadow.isEmpty || r.state == .receiving || r.state == .discarding

/-- The end of the phase of the test in flight, when its timer has run out, with a current that is a free value (R138; log
36). -/
def State.phaseEnds (s : State) : List Instr :=
  match s.cable.flight with
  | some f => if f.phaseOver s.nowMs then [f.phaseEnd (Config.testCurrent s.expiries)] else []
  | none => []

/-- The events whose timers have run out, in the order in which this model takes them: the sync filter (R83), the panel
inputs (R38), the contactor (R18), the zero-cross timer (R100), a test's phase (R138), the test interval (R137), a queue
wait (R142), the store's 2.5 s (R174, R176) and the maintenance gap (R168). -/
def State.expired (s : State) : List Instr :=
  if s.loading then (if 2500 ≤ s.store.timer then [.storeLoadTimeout] else [])
  else
    (if s.seq.sync.filter = .rising ∧ s.ranFor 20 s.seq.sync.timer = true then [Instr.countedPulse] else []) ++
    (if s.ranFor 50 s.engine.hand.timer && s.engine.hand.turning true then [Instr.handOn] else []) ++
    (if s.ranFor 50 s.engine.hand.timer && s.engine.hand.turning false then [Instr.handOff] else []) ++
    (if s.ranFor 50 s.engine.stepButton.timer && s.engine.stepButton.turning true then [Instr.stepPress] else []) ++
    (if s.ranFor 50 s.engine.stepButton.timer && s.engine.stepButton.turning false then [Instr.stepTurningOff]
     else []) ++
    (if s.ranFor 500 s.engine.contactorTimer then [Instr.contactorTimerExpiry] else []) ++
    (if s.lamps.scanState = .scanning ∧ s.ran 50 s.lamps.lastZeroCross = true then [Instr.scanSuspend] else []) ++
    s.phaseEnds ++
    (if s.cable.intervalTimer && s.cable.intervalRun s.nowMs then [Instr.intervalExpiry] else []) ++
    (match s.waitedOut with
     | some e => [Instr.waitLimitExpiry e.core]
     | none => []) ++
    (if s.saving && decide (2500 ≤ s.store.timer) then [Instr.storeSaveTimeout] else []) ++
    (if s.ports.maintenance.awaitsGap && s.ran 100 s.ports.maintenance.lastByte then [Instr.maintenanceGapExpiry]
     else [])

/-- One millisecond passes (R3): every hundredth one is a decisecond step, which moves the store's time itself. Until
the load ends only the load is timed (R174). -/
def State.millisecond (s : State) : Host.Outcome State Fault Refusal :=
  if s.loading then .next (s.onStore (Store.pass 1))
  else if s.uptimeMs % 100 = 99 then exec .decisecondStep s
  else .next { s.onStore (Store.pass 1) with uptimeMs := s.uptimeMs + 1 }

/-- What a step does when no command waits (log 4). The expiries taken are counted (log 36). -/
def State.idle (s : State) : Host.Outcome State Fault Refusal :=
  match s.outbox with
  | message :: _ => exec message s
  | [] =>
    match s.expired with
    | due :: _ => exec due { s with expiries := s.expiries + 1 }
    | [] => s.millisecond

end Sys2Proof.Machine
end

