-- ==== Sys2Proof/Safety.lean ====
section
/-! DEFINITION. What holds of the BV16 in every state a run can reach, in the words claims use: the junction shows no
conflict, the outputs and lines follow the mode, tests keep off lit cores, and the tables keep their forms. -/

namespace Sys2Proof.Machine

/-! ## Answers -/

/-- The state once a block has answered the request with this code OK on its port (R169). -/
def State.ok (p : Port) (code : Nat) (payload : List Byte) (s : State) : State :=
  s.respond p code { status := .ok, payload := payload }

/-- The state once the request with this code is refused on its port: nothing else has changed (R169). -/
def State.refusedWith (p : Port) (code : Nat) (status : Status) (s : State) : State :=
  s.respond p code { status := status, payload := [] }

/-! ## The junction -/

/-- The states a group of a type may be in while its own sequence runs (R8 to R10). -/
def runningState (type : GroupType) (state : GroupState) : Bool :=
  match type, state with
  | .vehicle, .red | .vehicle, .redAmber | .vehicle, .green | .vehicle, .amber => true
  | .pedestrian, .red | .pedestrian, .green | .pedestrian, .clearance => true
  | .tram, .red | .tram, .green | .tram, .amber => true
  | .unused, .dark => true
  | _, _ => false

/-- Whether a group's state is one its mode and phase show (R11, R21). -/
def shownState (mode : Mode) (phase : StartPhase) (type : GroupType) (state : GroupState) : Bool :=
  match mode with
  | .dark | .supplyOff => state == .dark
  | .flash => state == flashState type
  | .start =>
    match phase with
    | .flashPhase => state == flashState type
    | .allRedPhase => state == allRedState type
    | .none => false
  | .run | .held => runningState type state

/-- The start phase is NONE outside START and a phase within it (R20). -/
abbrev Engine.phaseSound (e : Engine) : Prop := e.startPhase = .none ↔ e.mode ≠ .start

/-- Every group shows what the mode and the phase lay down (R11, R21). -/
abbrev Engine.statesSound (e : Engine) : Prop :=
  ∀ g : GroupId, shownState e.mode e.startPhase e.groups[g].type e.groups[g].state = true

/-- The mode record and the groups agree (R20, R21). -/
abbrev State.modeSound (s : State) : Prop := s.engine.phaseSound ∧ s.engine.statesSound

/-- In RUN and HELD no two conflicting groups are both in a state other than RED (R52). -/
abbrev State.conflictsApart (s : State) : Prop :=
  isRunning s.engine.mode = true → ∀ i j : GroupId, s.conflict i j = true →
    s.engine.groups[i].state = .red ∨ s.engine.groups[j].state = .red

/-- The junction is safe: a sound matrix, groups that show their mode, and conflicting groups apart (R21, R40, R52). -/
abbrev State.junctionSafe (s : State) : Prop :=
  matrixSound s.conflicts.matrix = true ∧ s.modeSound ∧ s.conflictsApart

/-- Outside RUN and HELD no interstage is in flight, the target and the slot are empty and nothing is held; a hold is
pending only in RUN with an interstage in flight; and in RUN the slot waits only behind an interstage in flight (R23, R28,
R31, R32, R55, R56). -/
abbrev Engine.serviceSound (e : Engine) : Prop :=
  (isRunning e.mode = false →
    e.interstage.inFlight = false ∧ e.interstage.target = noGroups ∧ e.slot = none ∧ e.hold = HoldRecord.empty) ∧
  (e.hold.pending = true → e.mode = .run ∧ e.interstage.inFlight = true) ∧
  (e.mode = .run → e.slot ≠ none → e.interstage.inFlight = true)

/-- HELD entered with a cause and a budget port, as R31 lays it down: the hold record, the notices of the mode and the HOLD
entry; nothing else changes. -/
def State.heldBy (cause : HoldCause) (port : BudgetPort) (s : State) : State :=
  { s with
    engine.mode := .held
    engine.hold := { cause := cause, entered := s.nowSec, pending := false, pendingCause := .none, budgetPort := port }
    outbox := s.outbox ++ [.junctionModeNotice .sequencer .held, .junctionModeNotice .lampUnit .held,
                           .junctionModeNotice .cableUnit .held]
    history := s.history.take s.nowSec (.hold s.seq.inForce s.seq.stageIndex s.seq.cycleTimer cause) }

/-- HELD left for RUN with no request in the slot, as R34 lays it down: the hold record is emptied, the blocks are told of
the mode and a MODE entry is made; nothing else changes. -/
def State.released (s : State) : State :=
  { s with
    engine.mode := .run
    engine.hold := HoldRecord.empty
    outbox := s.outbox ++ [.junctionModeNotice .sequencer .run, .junctionModeNotice .lampUnit .run,
                           .junctionModeNotice .cableUnit .run]
    history := s.history.take s.nowSec (.mode s.seq.inForce s.seq.cycleTimer .run) }

/-- START ended in RUN, as R24, R70 and R92 lay it down with no interstage in flight: the dim line takes the plan's flag, the
loss watch starts when the plan has sync enabled, the blocks are told of the mode and a MODE entry is made, stage 1 is
formed and requested, and a HAND that is on holds at once; nothing else changes. -/
def State.runBegun (s : State) : State :=
  let first := s.seq.form 1
  let request : StageRequest :=
    { set := first.set, tag := { plan := s.seq.inForce, stage := 1, substituted := first.substituted, cycleAt := 0 } }
  let t : State :=
    { s with
      engine.startPhase := .none
      engine.mode := .run
      engine.dimOn := s.seq.plan.dim
      seq :=
        { s.seq with
          cycleTimer := 0
          stageIndex := 1
          running := first
          stageTimer := 0
          extensionEnd := 0
          deferred := false
          latest := { set := first.set, tag := some request.tag }
          state := .awaiting
          sync := if s.seq.plan.sync then { s.seq.sync with watch := .running, watchStart := s.engine.clock }
                  else s.seq.sync }
      outbox := s.outbox ++ (if s.engine.dimOn = s.seq.plan.dim then [] else [.dimChange s.seq.plan.dim]) ++
        [.junctionModeNotice .sequencer .run, .junctionModeNotice .lampUnit .run, .junctionModeNotice .cableUnit .run,
         .stageRequest request]
      history := s.history.take s.nowSec (.mode s.seq.inForce 0 .run) }
  if s.engine.hand.debounced then t.heldBy .panel .none else t

/-- The request that a stage index forms at this moment (R70). -/
def Sequencer.requestFor (k : Nat) (q : Sequencer) : StageRequest where
  set := (q.form k).set
  tag := { plan := q.inForce, stage := k, substituted := (q.form k).substituted, cycleAt := q.cycleTimer }

/-- A STEP to a stage index before the engine begins its interstage, as R35 and R70 lay it down: the slot is emptied and the
stage is formed and requested; nothing else changes. -/
def State.stepFormed (k : Nat) (s : State) : State :=
  { s with
    engine.slot := none
    seq :=
      { s.seq with
        stageIndex := k
        running := s.seq.form k
        extensionEnd := 0
        deferred := false
        stageTimer := 0
        latest := { set := (s.seq.form k).set, tag := some (s.seq.requestFor k).tag }
        state := .awaiting } }

/-- A stage request begun as a new interstage, as R50 and R59 lay it down, before its completion test: the interstage
record with the leaving and the entering groups, and the withheld flags; nothing else changes. -/
structure InterstageBegun (r : StageRequest) (s u : State) : Prop where
  record : u.engine.interstage.inFlight = true ∧ u.engine.interstage.target = r.set ∧
    u.engine.interstage.begunAt = s.engine.clock ∧ u.engine.interstage.tag = some r.tag
  group : ∀ g : GroupId,
    u.engine.interstage.leaving[g] = (s.engine.groups[g].state == .green && !r.set[g]) ∧
    u.engine.interstage.entering[g] =
      (r.set[g] && s.engine.groups[g].state != .green && s.engine.groups[g].type != .unused) ∧
    u.engine.groups[g] =
      { s.engine.groups[g] with
        withheld := r.set[g] && (s.engine.groups[g].withheld ||
          (s.engine.groups[g].inhibited && s.engine.groups[g].state != .green &&
           s.engine.groups[g].state != .redAmber)) }
  kept : u = { s with engine.interstage := u.engine.interstage, engine.groups := u.engine.groups }

/-- The correction that an interstage's completion leaves, when the stage it begins is elastic and a correction is stored
(R88): P is what is planned to remain of the stage and K what of the error is applied in it. -/
def correctionBegun (q : Sequencer) : Correction :=
  let p := (((q.running.endPoint : Int) - q.cycleTimer) % (q.plan.cycle : Int)).toNat
  let k := min q.correction.amount (min (q.plan.cycle / 5)
    (if q.correction.direction = .shorten then p - q.running.stageMin else q.running.stageMax - p))
  if k = 0 then { q.correction with state := .none, remaining := 0 }
  else { q.correction with state := .applying, applied := k, remaining := k, planned := p }

/-- An interstage completed, as R53 lays it down, before the slot is taken up: the stage of the latest request begins and
its demand is used up (R71), the step budget is counted in RUN and its last step asks for a hold (R37), a stored
correction is made due (R88), the CHANGE entry is made (R164), and a hold pending in RUN enters HELD (R32). -/
structure InterstageCompleted (s u : State) : Prop where
  flight : u.engine.interstage = { s.engine.interstage with inFlight := false }
  begun : s.engine.interstage.target = s.seq.latest.set →
    u.seq.state = .timing ∧ u.seq.stageTimer = 0 ∧
    (∀ k : Fin 12, u.seq.demands[k] = (s.seq.demands[k] && k.val + 1 != s.seq.running.index)) ∧
    u.seq.correction =
      if s.seq.running.elastic = true ∧ s.seq.correction.state = .stored then correctionBegun s.seq else s.seq.correction
  other : s.engine.interstage.target ≠ s.seq.latest.set →
    u.seq.state = s.seq.state ∧ u.seq.stageTimer = s.seq.stageTimer ∧ u.seq.demands = s.seq.demands ∧
    u.seq.correction = s.seq.correction
  budget : u.seq.budget = if s.engine.mode = .run then s.seq.budget - 1 else s.seq.budget
  sequence : u.seq =
    { s.seq with
      state := u.seq.state
      stageTimer := u.seq.stageTimer
      demands := u.seq.demands
      correction := u.seq.correction
      budget := u.seq.budget }
  mode : u.engine.mode = if s.engine.mode = .run ∧ s.engine.hold.pending = true then .held else s.engine.mode
  hold : u.engine.hold =
    if s.engine.mode = .run ∧ s.engine.hold.pending = true then
      { cause := s.engine.hold.pendingCause, entered := s.nowSec, pending := false, pendingCause := .none,
        budgetPort := if s.engine.hold.pendingCause = .stepCount then s.engine.hold.budgetPort else .none }
    else s.engine.hold
  sent : u.outbox = s.outbox ++
    (if s.engine.mode = .run ∧ s.seq.budget = 1 then [.stepCountHold s.seq.budgetPort] else []) ++
    (if s.engine.mode = .run ∧ s.engine.hold.pending = true then
      [.junctionModeNotice .sequencer .held, .junctionModeNotice .lampUnit .held,
       .junctionModeNotice .cableUnit .held] else [])
  entries : ∀ tag, s.engine.interstage.tag = some tag → ∀ (withheld : GroupSet) (h : History),
    (∀ g : GroupId, withheld[g] = (s.engine.interstage.entering[g] && s.engine.groups[g].withheld)) →
    h = s.history.take s.nowSec (.change tag (elapsed s.engine.clock s.engine.interstage.begunAt) withheld) →
    u.history =
      if s.engine.mode = .run ∧ s.engine.hold.pending = true then
        h.take s.nowSec (.hold s.seq.inForce s.seq.stageIndex s.seq.cycleTimer s.engine.hold.pendingCause)
      else h
  kept : u =
    { s with
      engine.interstage := u.engine.interstage
      engine.mode := u.engine.mode
      engine.hold := u.engine.hold
      seq := u.seq
      outbox := u.outbox
      history := u.history }

/-- What a STEP to a stage index makes of the junction (R35, R50, R70): the stage is formed and requested, and the engine
has begun its interstage, which has completed already when every group to be opened is in GREEN or withheld. -/
structure StepIssued (k : Nat) (s u : State) : Prop where
  stage : u.seq.stageIndex = k ∧ u.seq.running = s.seq.form k ∧ u.seq.extensionEnd = 0 ∧ u.seq.deferred = false ∧
    u.seq.stageTimer = 0
  latest : u.seq.latest =
    { set := (s.seq.form k).set,
      tag := some { plan := s.seq.inForce, stage := k, substituted := (s.seq.form k).substituted,
                    cycleAt := s.seq.cycleTimer } }
  state : u.seq.state = if u.engine.interstage.inFlight then .awaiting else .timing
  engine : u.engine.mode = .held ∧ u.engine.hold = s.engine.hold ∧ u.engine.slot = none ∧
    u.engine.clock = s.engine.clock
  interstage : u.engine.interstage.target = (s.seq.form k).set ∧ u.engine.interstage.tag = u.seq.latest.tag ∧
    u.engine.interstage.begunAt = s.engine.clock ∧
    (u.engine.interstage.inFlight = true ↔
      ∃ g : GroupId, (s.seq.form k).set[g] = true ∧ s.engine.groups[g].type ≠ .unused ∧
        s.engine.groups[g].state ≠ .green ∧ u.engine.groups[g].withheld = false)
  group : ∀ g : GroupId, u.engine.groups[g] = { s.engine.groups[g] with withheld := u.engine.groups[g].withheld }
  kept : u.seq.plans = s.seq.plans ∧ u.seq.inForce = s.seq.inForce ∧ u.seq.pendingPlan = s.seq.pendingPlan ∧
    u.seq.cycleTimer = s.seq.cycleTimer ∧ u.seq.budget = s.seq.budget ∧ u.seq.budgetPort = s.seq.budgetPort ∧
    u.seq.sync = s.seq.sync ∧ u.seq.substs = s.seq.substs ∧ u.conflicts = s.conflicts ∧ u.lamps = s.lamps ∧
    u.quals = s.quals ∧ u.faults = s.faults ∧ u.store = s.store

/-- The sequencer with every running field at its reset value, over the plans, the entries, the plan in force, its running
stage, and the input and the filter of the sync record (R62, R63, R67, R83, R84, R87). -/
def Sequencer.atReset (plans : Vector Plan 8) (substs : Vector SubstEntry 2) (inForce : PlanId) (running : RunningStage)
    (input : Bool) (filter : FilterState) : Sequencer where
  plans := plans
  inForce := inForce
  pendingPlan := none
  staging := none
  state := .stopped
  cycleTimer := 0
  stageIndex := 1
  running := running
  latest := { set := noGroups, tag := none }
  stageTimer := 0
  extensionEnd := 0
  deferred := false
  demands := noStages
  budget := 0
  budgetPort := .none
  correction := { state := .none, direction := .shorten, amount := 0, applied := 0, remaining := 0, planned := 0 }
  sync := { input := input, filter := filter, timer := none, lastPulse := none, lastCycleTimer := 0, lastPlan := none,
            lastError := 0, inStep := false, watch := .inactive, watchStart := 0#32 }
  substs := substs

/-- What an entry to FLASH (or, with `flash` false, to SUPPLY_OFF) makes of the junction (R28; R11, R17, R19). -/
structure SafeEntered (flash : Bool) (s u : State) : Prop where
  mode : u.engine.mode = if flash then .flash else .supplyOff
  phase : u.engine.startPhase = .none
  group : ∀ g : GroupId, u.engine.groups[g].state = (if flash then flashState s.engine.groups[g].type else .dark) ∧
    u.engine.groups[g].lastGreenEnd =
      (if s.engine.groups[g].state = .green ∨ s.engine.groups[g].state = .clearance then s.engine.clock
       else s.engine.groups[g].lastGreenEnd) ∧
    u.engine.groups[g].timeInState =
      (if u.engine.groups[g].state = s.engine.groups[g].state then s.engine.groups[g].timeInState else 0) ∧
    u.engine.groups[g].type = s.engine.groups[g].type ∧ u.engine.groups[g].withheld = s.engine.groups[g].withheld ∧
    u.engine.groups[g] =
      { s.engine.groups[g] with
        state := u.engine.groups[g].state
        timeInState := u.engine.groups[g].timeInState
        lastGreenEnd := u.engine.groups[g].lastGreenEnd
        cutShort := s.engine.groups[g].cutShort && decide (u.engine.groups[g].state = s.engine.groups[g].state) }
  interstage : u.engine.interstage.inFlight = false ∧ u.engine.interstage.target = noGroups
  slot : u.engine.slot = none
  hold : u.engine.hold = HoldRecord.empty
  lines : u.engine.contactorClosed = flash ∧ u.engine.dimOn = false
  clock : u.engine.clock = s.engine.clock ∧ u.uptimeMs = s.uptimeMs
  sequence : u.seq.state = .stopped ∧ u.seq.cycleTimer = 0 ∧ u.seq.budget = 0 ∧ u.seq.budgetPort = .none ∧
    u.seq.extensionEnd = 0 ∧ u.seq.deferred = false ∧ u.seq.correction.state = .none ∧ u.seq.sync.watch = .inactive
  plan : u.seq.inForce = s.seq.pendingPlan.getD s.seq.inForce ∧ u.seq.pendingPlan = none
  kept : u.seq.demands = s.seq.demands ∧ u.seq.plans = s.seq.plans ∧ u.seq.substs = s.seq.substs ∧
    u.conflicts = s.conflicts ∧ u.lamps = s.lamps ∧ u.quals = s.quals ∧ u.store = s.store
  entry : u.history = s.history.take s.nowSec (.mode u.seq.inForce 0 u.engine.mode)

/-! ## Lines and outputs -/

/-- The contactor line is closed in START, RUN, HELD and FLASH only, and the dim line is on in RUN and HELD only (R17,
R19). -/
abbrev State.linesSound (s : State) : Prop :=
  s.engine.contactorClosed = isSupplied s.engine.mode ∧ (s.engine.dimOn = true → isRunning s.engine.mode = true)

/-- Every aspect is presented as the groups' types and states, the wait condition and the flash phase call for (R4 to
R6). -/
abbrev State.outputsSound (s : State) : Prop :=
  ∀ c : CoreId, s.engine.aspects[c] = { command := s.wantedCommand c, lit := levelOf s.engine.clock (s.wantedCommand c) }

/-- The decisecond clock counts the 100 ms that have passed since the end of the load (R3). -/
abbrev State.clockSound (s : State) : Prop := s.engine.clock = BitVec.ofNat 32 (s.uptimeMs / 100)

/-! ## Lamp scanning -/

/-- A slot in progress is one of the scan mode's and its row is the one selected; in SUSPENDED no slot is in progress (R95,
R98, R100, R101) and row R is selected (DESIGN CHOICE, log 35). -/
abbrev LampUnit.scanSound (u : LampUnit) : Prop :=
  u.slotIndex ≤ slotsOf u.scanMode ∧ (u.slotIndex ≠ 0 → u.rowSelect = rowOf u.slotIndex) ∧
  (u.scanState = .suspended → u.slotIndex = 0 ∧ u.rowSelect = .R)

/-! ## Cable tests -/

/-- A core in test is fitted and its aspect is commanded OFF (R138). -/
abbrev State.flightSafe (s : State) : Prop := ∀ f : Flight, s.cable.flight = some f → s.eligible f.core = true

/-- The test queue holds at most 8 cores, all fitted, none twice (R134, R136). -/
abbrev State.queueSound (s : State) : Prop :=
  s.cable.queue.length ≤ 8 ∧ (s.cable.queue.map fun e => e.core).Nodup ∧ ∀ e ∈ s.cable.queue, 0 < s.fitted e.core

/-! ## Tables -/

/-- The key of a fault record (R156). -/
def FaultRecord.key (r : FaultRecord) : FaultKind × Subject := (r.kind, r.subject)

/-- The fault table holds at most 32 records, no key twice, and its line shows them (R156, R162). -/
abbrev FaultTable.wf (t : FaultTable) : Prop :=
  t.records.length ≤ 32 ∧ (t.records.map FaultRecord.key).Nodup ∧ t.overflow ≤ 255 ∧
  t.line = faultLine t.records t.overflow

/-- The ring holds the entries with the last sequence numbers issued, 16 at most (R164). -/
abbrev History.wf (h : History) : Prop :=
  h.ring.length ≤ 16 ∧
  ∀ k : Fin h.ring.length, h.ring[k].sequence = h.next - BitVec.ofNat 16 (h.ring.length - k.val)

end Sys2Proof.Machine
end

