-- ==== Sys2Proof/WellFormed.lean ====
section
/-! DEFINITION. Which commands can arise: arguments that fit the bytes of a frame (R172), ports that hold the right
(R171), and events whose readings and fields lie in their ranges. A well-formed request may still be refused by its
block; a command that is not well formed is one that no port and no block sends. -/

namespace Sys2Proof

open Sys2Proof.Machine

/-- A number that fits one byte. -/
def oneByte (n : Nat) : Bool := decide (n < 256)

/-- A number that fits two bytes. -/
def twoBytes (n : Nat) : Bool := decide (n < 65536)

/-- A stage as a frame can carry it. -/
def StageArgs.fits (a : StageArgs) : Bool :=
  twoBytes a.endPoint && twoBytes a.stageMin && twoBytes a.stageMax && oneByte a.demandDependent && oneByte a.elastic

/-- A part of WRITE_PLAN as a frame can carry it (R63). -/
def PlanPart.fits (part : PlanPart) : Bool :=
  match part with
  | .one plan cycle offset sync dim count stages =>
    oneByte plan && twoBytes cycle && twoBytes offset && oneByte sync && oneByte dim && oneByte count &&
    stages.length == min count 6 && stages.all StageArgs.fits
  | .two plan stages => oneByte plan && decide (stages.length ≤ 9) && stages.all StageArgs.fits
  | .other part => oneByte part && part != 1 && part != 2

/-- A comparator as a frame can carry it. -/
def ComparatorArgs.fits (k : ComparatorArgs) : Bool :=
  decide (-32768 ≤ k.limit) && decide (k.limit ≤ 32767) && oneByte k.condition

/-- The arguments of WRITE_QUALIFIER as a frame can carry them. -/
def QualifierArgs.fits (q : QualifierArgs) : Bool :=
  oneByte q.source && oneByte q.subject && q.a.fits && q.b.fits && oneByte q.combine && oneByte q.count && oneByte q.action

/-- A tag the sequencer can attach (R70). -/
def Tag.fits (t : Tag) : Bool := within 1 12 t.stage && decide (t.cycleAt < 2400)

/-- A history item a block can send (R164). -/
def HistoryItem.fits (item : HistoryItem) : Bool :=
  match item with
  | .change tag _ _ => tag.fits
  | .skip _ a b t => within 1 12 a && within 1 12 b && decide (t < 2400)
  | .plan _ t => decide (t < 2400)
  | .hold _ stage t cause => within 1 12 stage && decide (t < 2400) && cause != .none
  | .mode _ t m => decide (t < 2400) && m != .held

/-- An aspect's part of a frame result (R113). -/
def AspectResult.fits (r : AspectResult) : Bool :=
  decide (r.raw ≤ 4095) && decide (r.net ≤ 4095) && decide (r.proven ≤ 4)

/-- A current of the cable-test front end (R138). -/
def currentFits (x : Int) : Bool := decide (-2048 ≤ x) && decide (x ≤ 2047)

/-- Whether a port is one that has a select line (R166). -/
def hasSelect (p : Port) : Bool := p != .maintenance

/-- Whether a command can arise. -/
def wellFormed (i : Instr) : Bool :=
  match i with
  | .writeGroup group type minGreen redAmber amber clearance minRed =>
    oneByte group && oneByte type && twoBytes minGreen && oneByte redAmber && oneByte amber && twoBytes clearance &&
    oneByte minRed
  | .readGroup _ group => oneByte group
  | .restart => true
  | .writeStartTimes startFlash allRed => twoBytes startFlash && twoBytes allRed
  | .forceFlash => true
  | .forceOff => true
  | .hold p => p != .monitor
  | .resume p => p != .monitor
  | .step p index => p != .monitor && (index.map oneByte).getD true
  | .runSteps p n => p != .monitor && oneByte n
  | .readMode _ => true
  | .writeConflicts _ => true
  | .writeIntergreens part _ => oneByte part
  | .readConflicts _ => true
  | .readIntergreens _ part => oneByte part
  | .readInterstage _ => true
  | .writePlan part => part.fits
  | .readPlan _ plan part => oneByte plan && oneByte part
  | .selectPlan plan => oneByte plan
  | .demand stage => oneByte stage
  | .extend x => oneByte x
  | .writeSubst entry plan stage _ stageMin stageMax demandFlag =>
    oneByte entry && oneByte plan && oneByte stage && twoBytes stageMin && twoBytes stageMax && oneByte demandFlag
  | .enableSubst entry => oneByte entry
  | .disableSubst entry => oneByte entry
  | .readSubst _ => true
  | .readSequence _ => true
  | .readSync _ => true
  | .writeScan scanMode filter threshold => oneByte scanMode && oneByte filter && oneByte threshold
  | .readSnapshot p => p != .plan
  | .readScan _ row => oneByte row
  | .writeLamp aspect fitted type bright dim leak tolerance frozen =>
    oneByte aspect && oneByte fitted && oneByte type && twoBytes bright && twoBytes dim && oneByte leak &&
    oneByte tolerance && oneByte frozen
  | .learn aspect => oneByte aspect
  | .readLamp _ aspect => oneByte aspect
  | .testEnable => true
  | .testDisable => true
  | .testSet _ => true
  | .testInterval seconds => oneByte seconds
  | .testStartCyclic => true
  | .testStop => true
  | .testCore core => oneByte core
  | .clearCable core => oneByte core
  | .readCable _ core => oneByte core
  | .readTestUnit _ => true
  | .writeQualifier qualifier args => oneByte qualifier && args.fits
  | .arm qualifier => oneByte qualifier
  | .disarm qualifier => oneByte qualifier
  | .readQualifier _ qualifier => oneByte qualifier
  | .ackFault p kind subject => p != .plan && oneByte kind && oneByte subject
  | .clearOverflow => true
  | .readFaults _ position => oneByte position
  | .readHistory _ => true
  | .seekHistory _ => true
  | .saveStore => true
  | .readStore _ => true
  | .requestFrameComplete _ _ => true
  | .frameLengthOver96 _ length => decide (96 < length.toNat)
  | .selectRelease p => hasSelect p
  | .maintenanceGapExpiry => true
  | .maintenanceResponseSent => true
  | .decisecondStep => true
  | .timedStateExit _ => true
  | .flashPhaseEnd => true
  | .allRedPhaseEnd => true
  | .sequencerTick => true
  | .correctionSpent => true
  | .syncWatchExpiry => true
  | .stageRequest request => request.tag.fits
  | .stepCountHold budgetPort => budgetPort != .none
  | .redLossChange _ => true
  | .conflictObservedDeclaration _ => true
  | .qualifierFlash => true
  | .qualifierHold => true
  | .panelRawChange _ _ => true
  | .handOn => true
  | .handOff => true
  | .stepPress => true
  | .contactorFeedbackChange _ => true
  | .contactorTimerExpiry => true
  | .syncInputRise => true
  | .syncInputFall => true
  | .countedPulse => true
  | .zeroCross readings => readings.toList.all fun r => decide (r.raw ≤ 4095)
  | .scanSuspend => true
  | .aspectLevelChange _ _ => true
  | .dimChange _ => true
  | .junctionModeNotice _ _ => true
  | .lampFrameResult results => results.toList.all AspectResult.fits
  | .cableResult _ cls leakage offset =>
    (cls == .valid || cls == .asymmetric) && decide (-2047 ≤ leakage) && decide (leakage ≤ 2047) && currentFits offset
  | .lampOutDeclaration c => letterOf c != .R
  | .redLostDeclaration c => letterOf c == .R
  | .aspectCommandChange _ _ => true
  | .energiseNotice _ => true
  | .intervalExpiry => true
  | .positivePhaseEnd current => currentFits current
  | .testCompletion current => currentFits current
  | .waitLimitExpiry _ => true
  | .faultRaise kind subject => suits kind subject
  | .faultClear kind subject => suits kind subject
  | .historyEntry item => item.fits
  | .powerOnReset => true
  | .storeLoadEnd _ => true
  | .storeLoadTimeout => true
  | .storeSaveEnd _ => true
  | .storeSaveTimeout => true
  | .stepTurningOff => true
  | .incomingByte _ _ => true
  | .selectionStart p => hasSelect p

/-- The port and the request code of a request (R171); none for an event. -/
def requestOf (i : Instr) : Option (Port × Nat) :=
  match i with
  | .writeGroup _ _ _ _ _ _ _ => some (.plan, 1)
  | .readGroup p _ => some (p, 2)
  | .restart => some (.monitor, 3)
  | .writeStartTimes _ _ => some (.monitor, 4)
  | .forceFlash => some (.monitor, 5)
  | .forceOff => some (.monitor, 6)
  | .hold p => some (p, 7)
  | .resume p => some (p, 8)
  | .step p _ => some (p, 9)
  | .runSteps p _ => some (p, 10)
  | .readMode p => some (p, 11)
  | .writeConflicts _ => some (.monitor, 12)
  | .writeIntergreens _ _ => some (.monitor, 13)
  | .readConflicts p => some (p, 14)
  | .readIntergreens p _ => some (p, 15)
  | .readInterstage p => some (p, 16)
  | .writePlan _ => some (.plan, 17)
  | .readPlan p _ _ => some (p, 18)
  | .selectPlan _ => some (.plan, 19)
  | .demand _ => some (.plan, 20)
  | .extend _ => some (.plan, 21)
  | .writeSubst _ _ _ _ _ _ _ => some (.plan, 22)
  | .enableSubst _ => some (.plan, 23)
  | .disableSubst _ => some (.plan, 24)
  | .readSubst p => some (p, 25)
  | .readSequence p => some (p, 26)
  | .readSync p => some (p, 27)
  | .writeScan _ _ _ => some (.plan, 28)
  | .readSnapshot p => some (p, 29)
  | .readScan p _ => some (p, 30)
  | .writeLamp _ _ _ _ _ _ _ _ => some (.plan, 31)
  | .learn _ => some (.maintenance, 32)
  | .readLamp p _ => some (p, 33)
  | .testEnable => some (.maintenance, 34)
  | .testDisable => some (.maintenance, 35)
  | .testSet _ => some (.maintenance, 36)
  | .testInterval _ => some (.maintenance, 37)
  | .testStartCyclic => some (.maintenance, 38)
  | .testStop => some (.maintenance, 39)
  | .testCore _ => some (.maintenance, 40)
  | .clearCable _ => some (.maintenance, 41)
  | .readCable p _ => some (p, 42)
  | .readTestUnit p => some (p, 43)
  | .writeQualifier _ _ => some (.maintenance, 44)
  | .arm _ => some (.maintenance, 45)
  | .disarm _ => some (.maintenance, 46)
  | .readQualifier p _ => some (p, 47)
  | .ackFault p _ _ => some (p, 48)
  | .clearOverflow => some (.maintenance, 49)
  | .readFaults p _ => some (p, 50)
  | .readHistory p => some (p, 51)
  | .seekHistory p => some (p, 52)
  | .saveStore => some (.plan, 53)
  | .readStore p => some (p, 54)
  | .requestFrameComplete _ _ | .frameLengthOver96 _ _ | .selectRelease _ | .maintenanceGapExpiry
  | .maintenanceResponseSent | .decisecondStep | .timedStateExit _ | .flashPhaseEnd | .allRedPhaseEnd | .sequencerTick
  | .correctionSpent | .syncWatchExpiry | .stageRequest _ | .stepCountHold _ | .redLossChange _
  | .conflictObservedDeclaration _ | .qualifierFlash | .qualifierHold | .panelRawChange _ _ | .handOn | .handOff
  | .stepPress | .contactorFeedbackChange _ | .contactorTimerExpiry | .syncInputRise | .syncInputFall | .countedPulse
  | .zeroCross _ | .scanSuspend | .aspectLevelChange _ _ | .dimChange _ | .junctionModeNotice _ _ | .lampFrameResult _
  | .cableResult _ _ _ _ | .lampOutDeclaration _ | .redLostDeclaration _ | .aspectCommandChange _ _ | .energiseNotice _
  | .intervalExpiry | .positivePhaseEnd _ | .testCompletion _ | .waitLimitExpiry _ | .faultRaise _ _ | .faultClear _ _
  | .historyEntry _ | .powerOnReset | .storeLoadEnd _ | .storeLoadTimeout | .storeSaveEnd _ | .storeSaveTimeout
  | .stepTurningOff | .incomingByte _ _ | .selectionStart _ => none

end Sys2Proof
end

