-- ==== Sys2Proof/Certificates/Slice0/Obligations.lean ====
section
/-! DEFINITION. The statements for the provers. An equation `exec c s = .next t` gives the whole next state, so it says
what the command changes and that it changes nothing else. `State.ok` and `State.refusedWith` are the answers of R169,
`State.present` brings the outputs up to date (R5 to R7), `State.select` is a selection of R137, and `State.raise`,
`State.clear` and `State.record` are the raises, clears and entries of R157, R158 and R164. `State.taking` takes a
message out of the outbox (log 2). -/

open Sys2Proof Sys2Proof.Machine

/-! ## The machine -/

/-- A step takes the command at the front of the queue and runs it with the rest still waiting; with none waiting it
takes the oldest message between blocks; with none of these either, a timer's expiry exactly when its time has run, and
1 ms passes when none has. The times are 20 ms of the sync filter (R83), 50 ms of the panel inputs (R38), 500 ms of the
contactor (R18), 50 ms of the zero-cross timer (R100), 200 ms of a cable test's phase (R138), the test interval (R137),
120 s of a queue wait (R142), 2.5 s of a save and of a load (R174, R176) and 100 ms of the maintenance gap (R168); every
hundredth ms is a decisecond step (R3). The queue is the model's own field (log 1), as are the outbox (log 2), the count
of ms (log 5) and the count of expiries by which the current read at a phase's end, a free value, is drawn (log 36);
what a step does with an empty queue, and the order of what falls due together, are the model's choice (log 4). -/
def Obligations.StepTakesFrontCommand : Prop :=
  (∀ (i : Instr) (rest : List Instr) (s : State),
    step { s with pending := i :: rest } = exec i { s with pending := rest }) ∧
  (∀ (s : State) (message : Instr) (later : List Instr), s.pending = [] → s.outbox = message :: later →
    step s = exec message s) ∧
  (∀ s : State, s.pending = [] → s.outbox = [] → s.loading = true →
    step s = if 2500 ≤ s.store.timer then exec .storeLoadTimeout { s with expiries := s.expiries + 1 }
             else .next { s with store.timer := s.store.timer + 1 }) ∧
  (∀ (s : State) (run : Nat → Clock → Bool) (phase timers : List (Bool × Instr)), s.pending = [] → s.outbox = [] →
    s.loading = false →
    (∀ ms start, run ms start = decide (ms ≤ (BitVec.ofNat 32 s.uptimeMs - start).toNat)) →
    (s.cable.flight = none → phase = []) →
    (∀ f, s.cable.flight = some f → phase =
      [(run 200 f.phaseStart, if f.phase = .positive then .positivePhaseEnd (Config.testCurrent s.expiries)
                              else .testCompletion (Config.testCurrent s.expiries))]) →
    timers =
      [(s.seq.sync.filter == .rising && s.seq.sync.timer.any (run 20), .countedPulse),
       (s.engine.hand.raw && !s.engine.hand.debounced && s.engine.hand.timer.any (run 50), .handOn),
       (!s.engine.hand.raw && s.engine.hand.debounced && s.engine.hand.timer.any (run 50), .handOff),
       (s.engine.stepButton.raw && !s.engine.stepButton.debounced && s.engine.stepButton.timer.any (run 50), .stepPress),
       (!s.engine.stepButton.raw && s.engine.stepButton.debounced && s.engine.stepButton.timer.any (run 50),
        .stepTurningOff),
       (s.engine.contactorTimer.any (run 500), .contactorTimerExpiry),
       (s.lamps.scanState == .scanning && run 50 s.lamps.lastZeroCross, .scanSuspend)] ++ phase ++
      [(s.cable.intervalTimer && run (1000 * s.cable.interval) s.cable.lastTestEnd, .intervalExpiry)] ++
      s.cable.queue.map (fun e => (!e.underTest && run 120000 e.waitStart, .waitLimitExpiry e.core)) ++
      [(s.saving && decide (2500 ≤ s.store.timer), .storeSaveTimeout),
       ((s.ports.maintenance.state == .receiving || s.ports.maintenance.state == .discarding ||
          s.ports.maintenance.ignoring || s.ports.maintenance.shadow != []) && run 100 s.ports.maintenance.lastByte,
        .maintenanceGapExpiry)] →
    (∀ (earlier later : List (Bool × Instr)) (i : Instr), timers = earlier ++ (true, i) :: later →
      (∀ x ∈ earlier, x.1 = false) → step s = exec i { s with expiries := s.expiries + 1 }) ∧
    ((∀ x ∈ timers, x.1 = false) → step s =
      if s.uptimeMs % 100 = 99 then exec .decisecondStep s
      else .next { s with uptimeMs := s.uptimeMs + 1, store := s.store.pass 1 }))

/-- No command touches the queue of waiting commands. The queue is the model's own field (log 1). -/
def Obligations.CommandsLeaveQueue : Prop :=
  ∀ (i : Instr) (s t : State), exec i s = .next t → t.pending = s.pending

/-- R171: a request on a port that the table does not give it is refused with NOT_PERMITTED, and no block sees it: so HOLD,
RESUME, STEP and RUN_STEPS on the monitor port, and READ_SNAPSHOT and ACK_FAULT on the plan port. A request commanded
directly is taken whatever its port's state (log 7). -/
def Obligations.RequestNeedsItsRight : Prop :=
  (∀ (i : Instr) (p : Port) (code : Nat) (s : State), requestOf i = some (p, code) → permitted code p = false →
    s.loading = false → exec i s = .next (s.refusedWith p code .notPermitted)) ∧
  (∀ (s : State) (index : Option Nat) (n m : Nat), s.loading = false →
    exec (.hold .monitor) s = .next (s.refusedWith .monitor 7 .notPermitted) ∧
    exec (.resume .monitor) s = .next (s.refusedWith .monitor 8 .notPermitted) ∧
    exec (.step .monitor index) s = .next (s.refusedWith .monitor 9 .notPermitted) ∧
    exec (.runSteps .monitor n) s = .next (s.refusedWith .monitor 10 .notPermitted) ∧
    exec (.readSnapshot .plan) s = .next (s.refusedWith .plan 29 .notPermitted) ∧
    exec (.ackFault .plan n m) s = .next (s.refusedWith .plan 48 .notPermitted)) ∧
  (∀ (p : Port) (code : Nat), permitted code p = true ↔
    code ∈ [2, 11, 14, 15, 16, 18, 25, 26, 27, 30, 33, 42, 43, 47, 50, 51, 52, 54] ∨
    p = .plan ∧ code ∈ [1, 7, 8, 9, 10, 17, 19, 20, 21, 22, 23, 24, 28, 31, 53] ∨
    p = .monitor ∧ code ∈ [3, 4, 5, 6, 12, 13, 29, 48] ∨
    p = .maintenance ∧
      code ∈ [7, 8, 9, 10, 29, 32, 34, 35, 36, 37, 38, 39, 40, 41, 44, 45, 46, 48, 49])

/-- R174: until the load ends nothing moves but what ends the load and a reset: no request, no byte, no step, no timer, no
event of the mains and no message between blocks. The levels of the input pins are followed, and nothing comes of them. How
a command that waits for the load is taken is the model's choice (log 6). -/
def Obligations.NothingMovesWhileLoading : Prop :=
  ∀ (i : Instr) (s : State), s.loading = true → exec i s = .next s ∨
    (∃ memory, i = .storeLoadEnd memory) ∨ i = .storeLoadTimeout ∨ i = .powerOnReset ∨
    (∃ on, i = .panelRawChange .hand on ∧ exec i s = .next { s with engine.hand.raw := on }) ∨
    (∃ on, i = .panelRawChange .step on ∧ exec i s = .next { s with engine.stepButton.raw := on }) ∨
    (∃ closed, i = .contactorFeedbackChange closed ∧ exec i s = .next { s with engine.feedbackClosed := closed }) ∨
    i = .syncInputRise ∧ exec i s = .next { s with seq.sync.input := true } ∨
    i = .syncInputFall ∧ exec i s = .next { s with seq.sync.input := false } ∨
    (∃ p, p ≠ .maintenance ∧
      (i = .selectionStart p ∧ exec i s = .next (s.onPort p fun r => { r with selected := true }) ∨
       i = .selectRelease p ∧ exec i s = .next (s.onPort p fun r => { r with selected := false })))

/-- R169: the response carries the overrun flag, which is cleared; a status other than OK carries no payload; and the other
ports and blocks are left alone. -/
def Obligations.ResponseIsBuilt : Prop :=
  ∀ (p q : Port) (code : Nat) (a : Answer) (s : State),
    (((s.respond p code a).ports.at p).state = .responding ∧ ((s.respond p code a).ports.at p).overrun = false ∧
     ((s.respond p code a).ports.at p).response =
       some { code := BitVec.ofNat 8 code, status := a.status, overrun := (s.ports.at p).overrun,
              payload := if a.status = .ok then a.payload else [] }) ∧
    (q ≠ p → (s.respond p code a).ports.at q = s.ports.at q) ∧
    s.respond p code a = { s with ports := (s.respond p code a).ports }

/-- R7, R141: when an event lights a core under test, the test has ended INTERRUPTED before the output changes, and no new
test is on that core: that the selection after the end leaves it out is the model's choice (log 24). -/
def Obligations.LightingACoreEndsItsTest : Prop :=
  ∀ (s : State) (f : Flight), s.cable.flight = some f → s.command f.core = .off → s.wantedCommand f.core ≠ .off →
    s.present.cable.records[f.core].cls = .interrupted ∧
    s.present.cable.records[f.core].interrupted = min 255 (s.cable.records[f.core].interrupted + 1) ∧
    ∀ f', s.present.cable.flight = some f' → f'.core ≠ f.core

/-! ## Invariants of every step -/

/-- R21, R40, R52: from a junction that is safe, every step leaves it safe: the groups show what the mode lays down,
and in RUN and HELD no two conflicting groups are both in a state other than RED. A step with no command waiting is
the model's choice (log 4), here and in the statements that follow. -/
def Obligations.JunctionStaysSafe : Prop :=
  ∀ s t : State, s.junctionSafe → step s = .next t → t.junctionSafe

/-- R4 to R6: after every step each aspect is presented as the groups, the latched demands and the flash phase call for. -/
def Obligations.OutputsStayCurrent : Prop :=
  ∀ s t : State, s.outputsSound → step s = .next t → t.outputsSound

/-- R134, R136, R138: a core in test is fitted and commanded OFF, and the test queue holds at most 8 fitted cores, none
twice; every step keeps this. That a WRITE_LAMP with a fitted count of 0 ends a cyclic test too is the model's choice (log
20). -/
def Obligations.TestsKeepOffLitCores : Prop :=
  ∀ s t : State, s.flightSafe ∧ s.queueSound → step s = .next t → t.flightSafe ∧ t.queueSound

/-- R156, R162, R164: the fault table and the stage history keep their forms under every step: at most 32 records, no key
twice, and a FAULT line that shows them; and a ring of the entries with the last sequence numbers issued, 16 at most. -/
def Obligations.TablesKeepForm : Prop :=
  ∀ s t : State, s.faults.wf ∧ s.history.wf → step s = .next t → t.faults.wf ∧ t.history.wf

/-- R17, R19, R95, R98, R100, R101: the contactor line is closed in START, RUN, HELD and FLASH only, and the dim line is
on in RUN and HELD only, after every step; and the one row select that is driven is that of the slot in progress, which
is one of the scan mode's slots. That row R is selected in SUSPENDED, where no slot is in progress, is the model's
choice (log 35). -/
def Obligations.LinesFollowMode : Prop :=
  (∀ s t : State, s.linesSound → step s = .next t → t.linesSound) ∧
  (∀ s t : State, s.lamps.scanSound → step s = .next t → t.lamps.scanSound)

/-- R23, R28, R31, R32, R55, R56: after every step, outside RUN and HELD no interstage, target, slot or hold is left; a
hold is pending only behind an interstage in RUN; and the slot waits in RUN only behind an interstage. -/
def Obligations.ServiceKeepsForm : Prop :=
  ∀ s t : State, s.engine.serviceSound → step s = .next t → t.engine.serviceSound

/-- R3: the decisecond clock counts the 100 ms since the load (the count of ms is the model's own field, log 5). -/
def Obligations.ClockCountsTime : Prop :=
  ∀ s t : State, s.clockSound → step s = .next t → t.clockSound

/-- Every invariant above holds after reset. What stored fields hold before the load ends is the model's choice (log 3),
as is that row R is selected before the first slot (log 35). -/
def Obligations.ResetMeetsInvariants : Prop :=
  State.reset.junctionSafe ∧ State.reset.outputsSound ∧ State.reset.flightSafe ∧ State.reset.queueSound ∧
  State.reset.faults.wf ∧ State.reset.history.wf ∧ State.reset.linesSound ∧ State.reset.clockSound ∧
  State.reset.engine.serviceSound ∧ State.reset.lamps.scanSound

/-! ## Signal groups -/

/-- R13: an accepted WRITE_GROUP that keeps the type replaces the five timings and nothing else. -/
def Obligations.WriteGroupTakesTimings : Prop :=
  ∀ (s : State) (g : GroupId) (t : GroupType) (mg ra am cl mr : Nat), s.loading = false →
    isStopped s.engine.mode = true → s.saving = false → s.typeOf g = t → timingsInRange t mg ra am cl mr = true →
    s.groupCovered g (s.engine.groups[g].rewrite t mg ra am cl mr) = true →
    exec (.writeGroup (g.val + 1) (codeOf groupTypes t) mg ra am cl mr) s =
      .next (State.ok .plan 1 [] (State.present
        { s with
          engine.groups := put s.engine.groups g
            { s.engine.groups[g] with minGreen := mg, redAmber := ra, amber := am, clearance := cl, minRed := mr } }))

/-- R1, R13, R47, R48: an accepted WRITE_GROUP that changes the type writes the type and the five timings, clears red_lost,
withheld and the declared red loss, shows the new type in FLASH, leaves no ACTIVE RED_LOST record of the group, and leaves
the other groups' types, states and timings alone. The revalidation follows: every VALID plan with a conflicting pair in a
stage becomes INVALID, every enabled entry with one is disabled, and inhibition is recomputed. -/
def Obligations.WriteGroupChangesType : Prop :=
  ∀ (s : State) (g : GroupId) (t : GroupType) (mg ra am cl mr : Nat), s.loading = false →
    isStopped s.engine.mode = true → s.saving = false → s.typeOf g ≠ t →
    timingsInRange t mg ra am cl mr = true → s.typeAllowed g t = true →
    s.groupCovered g (s.engine.groups[g].rewrite t mg ra am cl mr) = true → s.engine.interstage.target = noGroups →
    ∃ u, exec (.writeGroup (g.val + 1) (codeOf groupTypes t) mg ra am cl mr) s = .next u ∧
      u.engine.groups[g] =
        { s.engine.groups[g] with
          type := t
          minGreen := mg
          redAmber := ra
          amber := am
          clearance := cl
          minRed := mr
          state := if s.engine.mode = .flash then flashState t else s.engine.groups[g].state
          timeInState := if s.engine.mode = .flash ∧ flashState t ≠ s.engine.groups[g].state then 0
                         else s.engine.groups[g].timeInState
          cutShort := s.engine.groups[g].cutShort && !decide (s.engine.mode = .flash ∧
            flashState t ≠ s.engine.groups[g].state)
          redLost := false
          withheld := false
          inhibited := u.engine.groups[g].inhibited } ∧
      (∀ h : GroupId, u.engine.groups[h].inhibited = true ↔
        ∃ i : GroupId, u.conflict i h = true ∧ u.engine.groups[i].redLost = true) ∧
      u.lamps.lamps[coreOf g .R] = { s.lamps.lamps[coreOf g .R] with redLossDeclared := false } ∧
      (∀ r ∈ u.faults.records, r.kind = .redLost → r.subject = .group g → r.state = .inactive) ∧
      (∀ h : GroupId, h ≠ g → u.engine.groups[h] = { s.engine.groups[h] with
        inhibited := u.engine.groups[h].inhibited }) ∧
      (∀ p : PlanId, u.seq.plans[p] =
        if s.seq.plans[p].validity = .valid ∧ u.planConflictFree s.seq.plans[p] = false then
          { s.seq.plans[p] with validity := .invalid }
        else s.seq.plans[p]) ∧
      (∀ e : EntryId, u.seq.substs[e] =
        if s.seq.substs[e].enabled = true ∧ u.conflictFree s.seq.substs[e].set = false then
          { s.seq.substs[e] with enabled := false }
        else s.seq.substs[e]) ∧
      u.engine.mode = s.engine.mode ∧ u.conflicts = s.conflicts ∧ u.quals = s.quals ∧ u.history = s.history ∧
      u.store = s.store ∧ u.seq = { s.seq with plans := u.seq.plans, substs := u.seq.substs } ∧
      (u.ports.at .plan).response.map (fun r => r.status) = some .ok

/-- R13, R14, R15: the refusals of WRITE_GROUP in their order; a refused request changes nothing. -/
def Obligations.WriteGroupRefusals : Prop :=
  ∀ (s : State) (n ty mg ra am cl mr : Nat), s.loading = false →
    (isStopped s.engine.mode = false →
      exec (.writeGroup n ty mg ra am cl mr) s = .next (s.refusedWith .plan 1 .wrongMode)) ∧
    (isStopped s.engine.mode = true → s.saving = true →
      exec (.writeGroup n ty mg ra am cl mr) s = .next (s.refusedWith .plan 1 .busy)) ∧
    (isStopped s.engine.mode = true → s.saving = false →
      (¬ (1 ≤ n ∧ n ≤ 16) ∨ 4 ≤ ty ∨
       ∃ (g : GroupId) (t : GroupType), n = g.val + 1 ∧ ty = codeOf groupTypes t ∧
         (timingsInRange t mg ra am cl mr = false ∨ s.typeAllowed g t = false ∨
          s.groupCovered g (s.engine.groups[g].rewrite t mg ra am cl mr) = false)) →
      exec (.writeGroup n ty mg ra am cl mr) s = .next (s.refusedWith .plan 1 .range))

/-- R3, R11, R12, R24: in DARK, FLASH and SUPPLY_OFF a decisecond step moves the clock and the times in state, and no
group. In START it also raises the phase time by 1 ds and ends the flash phase or the all-red phase when its time has
run; RUN is then begun with its MODE entry, its stage 1, its loss watch and, with HAND on, its hold (R20, R70, R92).
That the tick and the stage request wait in the outbox is the model's choice (log 2), as are that the step moves the
count of ms, and a save's time with it, to the next 100 ms (log 5), the budget port NONE of HAND's hold (log 14) and
what the time does to a store save (log 23). -/
def Obligations.StepOutsideServiceMovesTime : Prop :=
  ∀ (s : State) (moved : GroupId → Group), s.loading = false → s.engine.interstage.inFlight = false →
    (∀ g : GroupId, moved g =
      { s.engine.groups[g] with timeInState := min 65535 (s.engine.groups[g].timeInState + 1) }) →
    (isStopped s.engine.mode = true → ∃ u, exec .decisecondStep s = .next u ∧ u.engine.clock = s.engine.clock + 1 ∧
      (∀ g : GroupId, u.engine.groups[g] = moved g) ∧ u.engine.mode = s.engine.mode ∧
      u.engine.startPhase = s.engine.startPhase ∧ u.seq = s.seq ∧ u.lamps = s.lamps ∧ u.conflicts = s.conflicts ∧
      u.quals = s.quals ∧ u.faults = s.faults ∧ u.history = s.history ∧ u.ports = s.ports ∧
      u.store = s.store.pass (100 - s.uptimeMs % 100) ∧ Instr.sequencerTick ∈ u.outbox) ∧
    (s.engine.mode = .start → ∃ u, exec .decisecondStep s = .next u ∧ u.engine.clock = s.engine.clock + 1 ∧
      (if s.engine.startPhase = .flashPhase ∧ s.engine.startFlash ≤ s.engine.phaseTime + 1 then
        u.engine.mode = .start ∧ u.engine.startPhase = .allRedPhase ∧ u.engine.phaseTime = 0 ∧ u.seq = s.seq ∧
        u.history = s.history ∧
        ∀ g : GroupId, u.engine.groups[g] =
          { s.engine.groups[g] with
            state := if s.engine.groups[g].type = .unused then .dark else .red
            timeInState := if s.engine.groups[g].state = (if s.engine.groups[g].type = .unused then .dark else .red)
                           then min 65535 (s.engine.groups[g].timeInState + 1) else 0
            cutShort := s.engine.groups[g].cutShort &&
              decide (s.engine.groups[g].state = if s.engine.groups[g].type = .unused then .dark else .red)
            lastGreenEnd := s.engine.clock + 1 }
      else if s.engine.startPhase = .allRedPhase ∧ s.engine.allRed ≤ s.engine.phaseTime + 1 then
        u.engine.startPhase = .none ∧ u.engine.mode = (if s.engine.hand.debounced then .held else .run) ∧
        (s.engine.hand.debounced = true → u.engine.hold.cause = .panel) ∧
        (∀ g : GroupId, u.engine.groups[g] = moved g) ∧ u.engine.dimOn = s.seq.plan.dim ∧ u.seq.cycleTimer = 0 ∧
        u.seq.stageIndex = 1 ∧ u.seq.state = .awaiting ∧ u.seq.inForce = s.seq.inForce ∧
        Instr.stageRequest u.seq.request ∈ u.outbox ∧ u.seq.request.tag.stage = 1 ∧
        (∀ v : State, v = State.runBegun
            { s with engine.clock := s.engine.clock + 1, uptimeMs := (s.uptimeMs / 100 + 1) * 100 } →
          u.seq = v.seq ∧ u.history = v.history ∧ u.engine.hold = v.engine.hold)
      else
        u.engine.mode = .start ∧ u.engine.startPhase = s.engine.startPhase ∧
        u.engine.phaseTime = s.engine.phaseTime + 1 ∧ u.seq = s.seq ∧ u.history = s.history ∧
        ∀ g : GroupId, u.engine.groups[g] = moved g) ∧
      u.lamps = s.lamps ∧ u.conflicts = s.conflicts ∧ u.quals = s.quals ∧ u.faults = s.faults ∧ u.ports = s.ports ∧
      u.store = s.store.pass (100 - s.uptimeMs % 100) ∧ Instr.sequencerTick ∈ u.outbox)

/-- R8 to R10, R12, R51, R52, R54, R60: what a decisecond step in RUN and HELD does to each group. A green outside the
target whose minimum green has run is ended; an amber or clearance that has run goes to RED, and the start is tested
there; RED_AMBER that has run goes to GREEN; and a group in RED starts exactly when it is in the target, is not
inhibited, has run its minimum red, and every conflicting group, as the groups before it in number leave it, is in RED
with its intergreen less the red-amber time elapsed. The completion test, the outputs and the tick follow. That the tick
waits in the outbox is the model's choice (log 2), as are the count of ms (log 5), what the time does to a store save
(log 23), and that R60's words are taken over R52's for minimum red, which a group whose green inhibition ended counts
from that ending (log 30). -/
def Obligations.StepEndsGroups : Prop :=
  ∀ (s v : State) (g : GroupId) (time : GroupId → Nat), s.loading = false → isRunning s.engine.mode = true →
    v = s.advanceClock.takeEndings.takeStarts →
    (∀ i : GroupId, time i = min 65535 (s.engine.groups[i].timeInState + 1)) →
    exec .decisecondStep s = .next (v.testCompletion.present.send [.sequencerTick]) ∧
    v = { s with
          uptimeMs := (s.uptimeMs / 100 + 1) * 100
          store := s.store.pass (100 - s.uptimeMs % 100)
          engine.clock := s.engine.clock + 1
          engine.groups := v.engine.groups
          engine.startTests := v.engine.startTests } ∧
    (s.engine.groups[g].state = .green → v.engine.groups[g] =
      if s.engine.interstage.target[g] = false ∧
          s.engine.groups[g].minGreen ≤ elapsed (s.engine.clock + 1) s.engine.groups[g].greenStart then
        { s.engine.groups[g] with
          state := if s.engine.groups[g].type = .pedestrian then .clearance else .amber
          timeInState := 0
          lastGreenEnd := s.engine.clock + 1
          cutShort := false }
      else { s.engine.groups[g] with timeInState := time g }) ∧
    (s.engine.groups[g].state = .redAmber → v.engine.groups[g] =
      if s.engine.groups[g].redAmber ≤ time g then
        { s.engine.groups[g] with
          state := .green
          timeInState := 0
          greenStart := s.engine.clock + 1
          withheld := false
          cutShort := false }
      else { s.engine.groups[g] with timeInState := time g }) ∧
    (∀ (r : Group) (run cleared : Prop),
      s.engine.groups[g].state = .amber ∨ s.engine.groups[g].state = .clearance ∨ s.engine.groups[g].state = .red →
      r = (if s.engine.groups[g].state = .amber ∧ s.engine.groups[g].amber ≤ time g ∨
            s.engine.groups[g].state = .clearance ∧ s.engine.groups[g].clearance ≤ time g then
          { s.engine.groups[g] with state := .red, timeInState := 0 }
        else { s.engine.groups[g] with timeInState := time g }) →
      (run ↔ r.minRed ≤ r.timeInState ∨
        r.cutShort = true ∧ r.minRed ≤ elapsed (s.engine.clock + 1) r.lastGreenEnd) →
      (cleared ↔ ∀ i : GroupId, s.conflict i g = true →
        (if i < g then v.engine.groups[i].state = .red
         else s.engine.groups[i].state = .red ∨
           s.engine.groups[i].state = .amber ∧ s.engine.groups[i].amber ≤ time i ∨
           s.engine.groups[i].state = .clearance ∧ s.engine.groups[i].clearance ≤ time i) ∧
        s.conflicts.ig i g ≤
          elapsed (s.engine.clock + 1) s.engine.groups[i].lastGreenEnd + s.engine.groups[g].redAmber) →
      v.engine.startTests[g].notInhibited = !s.engine.groups[g].inhibited ∧
      (v.engine.startTests[g].minRedRun = true ↔ run) ∧
      (v.engine.startTests[g].intergreensRun = true ↔ cleared) ∧
      (r.state = .red ∧ s.engine.interstage.target[g] = true ∧ r.inhibited = false ∧ run ∧ cleared →
        v.engine.groups[g] =
          if r.type = .vehicle then { r with state := .redAmber, timeInState := 0, withheld := false, cutShort := false }
          else
            { r with
              state := .green
              timeInState := 0
              greenStart := s.engine.clock + 1
              withheld := false
              cutShort := false }) ∧
      (¬ (r.state = .red ∧ s.engine.interstage.target[g] = true ∧ r.inhibited = false ∧ run ∧ cleared) →
        v.engine.groups[g] = r)) ∧
    (∀ u, exec .decisecondStep s = .next u →
      u.engine.groups[g] = { v.engine.groups[g] with withheld := u.engine.groups[g].withheld } ∧
      u.engine.clock = s.engine.clock + 1 ∧ u.lamps = s.lamps ∧ u.conflicts = s.conflicts ∧ u.quals = s.quals ∧
      u.faults = s.faults ∧ u.ports = s.ports)

/-- R52, R60: a group that leaves RED in a step is in the target and not inhibited, its minimum red has run, and every
conflicting group's intergreen less its own red-amber time has elapsed. Minimum red is judged by the time in state, or,
where inhibition ended the group's green, from that ending: R60's words are taken over R52's (log 30). -/
def Obligations.StartsKeepIntergreens : Prop :=
  ∀ (s u : State) (g : GroupId), s.loading = false → isRunning s.engine.mode = true →
    s.engine.groups[g].state = .red → exec .decisecondStep s = .next u → u.engine.groups[g].state ≠ .red →
    s.engine.interstage.target[g] = true ∧ s.engine.groups[g].inhibited = false ∧
    (s.engine.groups[g].minRed ≤ s.engine.groups[g].timeInState + 1 ∨
      s.engine.groups[g].cutShort = true ∧
        s.engine.groups[g].minRed ≤ elapsed (s.engine.clock + 1) s.engine.groups[g].lastGreenEnd) ∧
    ∀ i : GroupId, s.conflict i g = true →
      s.engine.groups[i].state ∈ [GroupState.red, .amber, .clearance] ∧
      s.conflicts.ig i g ≤
        elapsed (s.engine.clock + 1) s.engine.groups[i].lastGreenEnd + s.engine.groups[g].redAmber

/-- R8 to R10, R12: the timed exits of one group in RUN and HELD: RED_AMBER to GREEN with green start now, AMBER and
CLEARANCE to RED. Taking a timed exit alone, when it is due, is the model's choice (log 9). -/
def Obligations.TimedExits : Prop :=
  ∀ (s : State) (g : GroupId), s.loading = false → isRunning s.engine.mode = true →
    (s.engine.groups[g].state = .redAmber → s.engine.groups[g].redAmber ≤ s.engine.groups[g].timeInState →
      exec (.timedStateExit g) s = .next (State.present
        { s with
          engine.groups := put s.engine.groups g
            { s.engine.groups[g] with
              state := .green
              timeInState := 0
              greenStart := s.engine.clock
              withheld := false
              cutShort := false } })) ∧
    (s.engine.groups[g].state = .amber → s.engine.groups[g].amber ≤ s.engine.groups[g].timeInState →
      exec (.timedStateExit g) s = .next (State.present
        { s with engine.groups := put s.engine.groups g { s.engine.groups[g] with state := .red, timeInState := 0 } })) ∧
    (s.engine.groups[g].state = .clearance → s.engine.groups[g].clearance ≤ s.engine.groups[g].timeInState →
      exec (.timedStateExit g) s = .next (State.present
        { s with engine.groups := put s.engine.groups g { s.engine.groups[g] with state := .red, timeInState := 0 } }))

/-! ## Junction modes and hand control -/

/-- R24: the end of the flash phase: every group that has a type goes to RED, every group's last green end is now, and
the all-red phase begins. Taking the phase's end alone, when it is due, is the model's choice (log 9). -/
def Obligations.FlashPhaseEnds : Prop :=
  ∀ s : State, s.loading = false → s.engine.mode = .start → s.engine.startPhase = .flashPhase →
    s.engine.startFlash ≤ s.engine.phaseTime →
    ∃ u, exec .flashPhaseEnd s = .next u ∧ u.engine.startPhase = .allRedPhase ∧ u.engine.phaseTime = 0 ∧
      u.engine.mode = .start ∧
      (∀ g : GroupId, u.engine.groups[g].lastGreenEnd = s.engine.clock ∧
        u.engine.groups[g].type = s.engine.groups[g].type ∧
        u.engine.groups[g].state = (if s.engine.groups[g].type = .unused then .dark else .red)) ∧
      u.seq = s.seq ∧ u.lamps = s.lamps ∧ u.faults = s.faults ∧ u.history = s.history ∧ u.conflicts = s.conflicts ∧
      u.quals = s.quals ∧ u.ports = s.ports ∧ u.store = s.store

/-- R20, R24, R31, R38, R70, R92: the end of the all-red phase: RUN, or HELD at once with cause PANEL when HAND is on,
with the MODE entry and then the HOLD entry; the cycle timer is 0, the running stage is formed from stage 1, which is
awaited, and its request is on its way to the engine; the loss watch starts when the plan has sync enabled. Taking the
phase's end alone (log 9), the outbox (log 2), and that the phase time is kept when the mode becomes RUN and the budget port
of HAND's hold is NONE (log 14) are the model's choices. -/
def Obligations.AllRedPhaseEnds : Prop :=
  ∀ s : State, s.loading = false → s.engine.mode = .start → s.engine.startPhase = .allRedPhase →
    s.engine.allRed ≤ s.engine.phaseTime → s.engine.interstage.inFlight = false →
    exec .allRedPhaseEnd s = .next s.runBegun.present ∧ ∃ u, exec .allRedPhaseEnd s = .next u ∧ u.engine.startPhase = .none ∧
      u.engine.mode = (if s.engine.hand.debounced then .held else .run) ∧
      (s.engine.hand.debounced = true → u.engine.hold.cause = .panel) ∧
      u.engine.groups = s.engine.groups ∧ u.engine.dimOn = s.seq.plan.dim ∧ u.seq.cycleTimer = 0 ∧
      u.seq.stageIndex = 1 ∧ u.seq.state = .awaiting ∧ u.seq.inForce = s.seq.inForce ∧
      Instr.stageRequest u.seq.request ∈ u.outbox ∧ u.seq.request.tag.stage = 1 ∧
      u.lamps = s.lamps ∧ u.faults = s.faults ∧ u.conflicts = s.conflicts ∧ u.quals = s.quals ∧ u.ports = s.ports ∧
      u.store = s.store

/-- R2, R22, R23, R67, R87, R92: RESTART, when none of its five refusals applies, begins START: the loss watch becomes
INACTIVE, the latest request is emptied, and the fields of a group, of the sync record and of the sequencer that no rule
names are kept. Of these the stage timer, the stage index and the running stage, and the correction's remaining of 0 ds,
are the model's choice (log 14); the notices of the mode wait in the outbox (log 2). -/
def Obligations.RestartBegins : Prop :=
  ∀ s : State, s.loading = false → isStopped s.engine.mode = true → s.seq.plan.validity = .valid → s.saving = false →
    (∀ r ∈ s.faults.records, r.kind ≠ .conflictObserved ∧ (r.kind = .senseFault → r.state = .inactive)) →
    ∃ u, exec .restart s = .next u ∧ u.engine.mode = .start ∧ u.engine.phaseTime = 0 ∧
      u.engine.startPhase = (if s.engine.startFlash = 0 then .allRedPhase else .flashPhase) ∧
      (∀ g : GroupId, u.engine.groups[g].withheld = false ∧ u.engine.groups[g].type = s.engine.groups[g].type ∧
        u.engine.groups[g].redLost = s.engine.groups[g].redLost ∧
        u.engine.groups[g].state = (if s.engine.startFlash = 0 then allRedState s.engine.groups[g].type
                                    else flashState s.engine.groups[g].type) ∧
        u.engine.groups[g].lastGreenEnd =
          (if s.engine.startFlash = 0 then s.engine.clock else s.engine.groups[g].lastGreenEnd) ∧
        u.engine.groups[g] =
          { s.engine.groups[g] with
            state := u.engine.groups[g].state
            timeInState := if u.engine.groups[g].state = s.engine.groups[g].state then s.engine.groups[g].timeInState
                           else 0
            cutShort := s.engine.groups[g].cutShort &&
              decide (u.engine.groups[g].state = s.engine.groups[g].state)
            lastGreenEnd := u.engine.groups[g].lastGreenEnd
            withheld := false }) ∧
      u.seq =
        { s.seq with
          state := .stopped
          cycleTimer := 0
          latest := { set := noGroups, tag := none }
          extensionEnd := 0
          deferred := false
          demands := noStages
          budget := 0
          budgetPort := .none
          correction := { s.seq.correction with state := .none, remaining := 0 }
          sync := { s.seq.sync with watch := .inactive } } ∧
      u.engine.hold = HoldRecord.empty ∧ u.engine.slot = none ∧ u.engine.interstage.inFlight = false ∧
      u.engine.interstage.target = noGroups ∧ u.engine.contactorClosed = true ∧ u.engine.dimOn = false ∧
      u.seq.state = .stopped ∧ u.seq.cycleTimer = 0 ∧ u.seq.correction.state = .none ∧ u.seq.budget = 0 ∧
      u.seq.budgetPort = .none ∧ u.seq.demands = noStages ∧ u.seq.extensionEnd = 0 ∧ u.seq.deferred = false ∧
      u.seq.plans = s.seq.plans ∧ u.seq.inForce = s.seq.inForce ∧ u.seq.substs = s.seq.substs ∧
      u.conflicts = { s.conflicts with stagedRows := [], stagedParts := 0 } ∧ u.lamps = s.lamps ∧ u.quals = s.quals ∧
      u.store = s.store ∧ u.uptimeMs = s.uptimeMs ∧
      u.history = s.history.take s.nowSec (.mode s.seq.inForce 0 .start) ∧
      (∀ r : FaultRecord, r.kind ≠ .forced → r.kind ≠ .contactor →
        (r ∈ u.faults.records ↔ r ∈ s.faults.records)) ∧
      (∀ r ∈ u.faults.records, r.kind = .forced → r.subject = .none → r.state = .inactive) ∧
      (u.ports.at .monitor).response.map (fun r => r.status) = some .ok

/-- R22: RESTART's refusals, tested in this order; a refused RESTART changes nothing. -/
def Obligations.RestartRefusals : Prop :=
  ∀ s : State, s.loading = false →
    exec .restart s =
      if isStopped s.engine.mode = false then .next (s.refusedWith .monitor 3 .wrongMode)
      else if s.seq.plan.validity = .invalid then .next (s.refusedWith .monitor 3 .wrongMode)
      else if s.saving = true then .next (s.refusedWith .monitor 3 .wrongMode)
      else if ∃ r ∈ s.faults.records, r.kind = .conflictObserved then .next (s.refusedWith .monitor 3 .blocked)
      else if ∃ r ∈ s.faults.records, r.kind = .senseFault ∧ r.state = .active then
        .next (s.refusedWith .monitor 3 .blocked)
      else .next (s.restartJunction.ok .monitor 3 [])

/-- R25: WRITE_START_TIMES, its three refusals in order and its effect. -/
def Obligations.StartTimesWritten : Prop :=
  ∀ (s : State) (a b : Nat), s.loading = false →
    exec (.writeStartTimes a b) s = .next (
      if s.engine.mode = .start ∨ s.engine.mode = .run ∨ s.engine.mode = .held then s.refusedWith .monitor 4 .wrongMode
      else if s.saving = true then s.refusedWith .monitor 4 .busy
      else if 600 < a ∨ b < 30 ∨ 300 < b then s.refusedWith .monitor 4 .range
      else State.ok .monitor 4 [] { s with engine := { s.engine with startFlash := a, allRed := b } })

/-- R26, R27, R28, R29: FORCE_FLASH and a qualifier's FLASH enter FLASH from START, RUN and HELD; FORCE_OFF and an
observed conflict enter SUPPLY_OFF from START, RUN, HELD and FLASH, and FORCE_OFF from DARK too; all with the effects
of R28, and the two requests raise FORCED. Messages to be taken and sent wait in the outbox (log 2). -/
def Obligations.SafeModesEntered : Prop :=
  ∀ (s : State) (g : GroupId), s.loading = false →
    (s.engine.mode = .start ∨ s.engine.mode = .run ∨ s.engine.mode = .held →
      (∃ u, exec .forceFlash s = .next u ∧ SafeEntered true s u ∧
        (s.faults.records.length < 32 → ∃ r ∈ u.faults.records, r.kind = .forced ∧ r.state = .active)) ∧
      (∃ u, exec .qualifierFlash s = .next u ∧ SafeEntered true s u)) ∧
    (s.engine.mode = .start ∨ s.engine.mode = .run ∨ s.engine.mode = .held ∨ s.engine.mode = .flash →
      ∃ u, exec (.conflictObservedDeclaration g) s = .next u ∧ SafeEntered false s u) ∧
    (s.engine.mode ≠ .supplyOff → ∃ u, exec .forceOff s = .next u ∧ SafeEntered false s u ∧
      (s.faults.records.length < 32 → ∃ r ∈ u.faults.records, r.kind = .forced ∧ r.state = .active))

/-- R26, R27, R29: where the safe modes are not entered: FORCE_FLASH is refused in DARK and SUPPLY_OFF and only raises
FORCED in FLASH; FORCE_OFF in SUPPLY_OFF only raises FORCED; a declaration or a qualifier's FLASH takes no action.
Messages to be taken wait in the outbox (log 2). -/
def Obligations.SafeModesKept : Prop :=
  ∀ (s : State) (g : GroupId), s.loading = false →
    (s.engine.mode = .dark ∨ s.engine.mode = .supplyOff →
      exec .forceFlash s = .next (s.refusedWith .monitor 5 .wrongMode) ∧
      exec (.conflictObservedDeclaration g) s = .next (s.taking (.conflictObservedDeclaration g))) ∧
    (s.engine.mode = .flash → exec .forceFlash s = .next ((s.raise .forced .none).ok .monitor 5 [])) ∧
    (s.engine.mode = .supplyOff → exec .forceOff s = .next ((s.raise .forced .none).ok .monitor 6 [])) ∧
    (s.engine.mode = .dark ∨ s.engine.mode = .supplyOff ∨ s.engine.mode = .flash →
      exec .qualifierFlash s = .next (s.taking .qualifierFlash))

/-- R30 to R33: a HOLD from the plan or the maintenance port, a qualifier's hold and a STEP_COUNT hold: HELD at once
in RUN with no interstage in flight; pending behind one in flight; no effect in HELD or behind a pending hold; and
outside RUN and HELD the request is refused and the other two take no action. The model's choices: messages to be taken
wait in the outbox (log 2), a hold of another cause than STEP_COUNT empties the budget port (log 14), and a STEP_COUNT hold
is taken whatever the budget is by then (log 29). -/
def Obligations.HoldsTaken : Prop :=
  ∀ (s : State) (p : Port) (b : BudgetPort) (cause : HoldCause), s.loading = false →
    p = .plan ∧ cause = .planRequest ∨ p = .maintenance ∧ cause = .maintRequest →
    (s.engine.mode = .run → s.engine.interstage.inFlight = false →
      exec (.hold p) s = .next (State.ok p 7 [] (s.heldBy cause .none)) ∧
      exec .qualifierHold s = .next ((s.taking .qualifierHold).heldBy .qualifier .none) ∧
      exec (.stepCountHold b) s = .next ((s.taking (.stepCountHold b)).heldBy .stepCount b)) ∧
    (s.engine.mode = .run → s.engine.interstage.inFlight = true → s.engine.hold.pending = false →
      exec (.hold p) s = .next (State.ok p 7 [] (s.onEngine fun e =>
        { e with hold := { e.hold with pending := true, pendingCause := cause, budgetPort := .none } })) ∧
      exec .qualifierHold s = .next ((s.taking .qualifierHold).onEngine fun e =>
        { e with hold := { e.hold with pending := true, pendingCause := .qualifier, budgetPort := .none } }) ∧
      exec (.stepCountHold b) s = .next ((s.taking (.stepCountHold b)).onEngine fun e =>
        { e with hold := { e.hold with pending := true, pendingCause := .stepCount, budgetPort := b } })) ∧
    (s.engine.mode = .held ∨
      s.engine.mode = .run ∧ s.engine.interstage.inFlight = true ∧ s.engine.hold.pending = true →
      exec (.hold p) s = .next (State.ok p 7 [] s) ∧
      exec .qualifierHold s = .next (s.taking .qualifierHold) ∧
      exec (.stepCountHold b) s = .next (s.taking (.stepCountHold b))) ∧
    (s.engine.mode ≠ .run → s.engine.mode ≠ .held →
      exec (.hold p) s = .next (s.refusedWith p 7 .wrongMode) ∧
      exec .qualifierHold s = .next (s.taking .qualifierHold) ∧
      exec (.stepCountHold b) s = .next (s.taking (.stepCountHold b)))

/-- R38: the panel. A raw level starts or stops its 50 ms timer, whose expiry StepTakesFrontCommand says; HAND on holds
with cause PANEL, at once, pending or by taking over the cause; HAND off releases a PANEL hold, or gives up a pending
one; STEP is a STEP without an index, dropped where it would be refused; its release moves the debounced level only. A
debounced change is taken only while its 50 ms timer runs (log 9). The model's choices too are that a PANEL hold in HELD
always makes a HOLD entry, also over PANEL (log 25), that a hold taken over for the panel or given up leaves the budget
port NONE (logs 14 and 25), and that the notices of the mode wait in the outbox (log 2). -/
def Obligations.PanelActs : Prop :=
  ∀ s : State, s.loading = false →
    (∀ on : Bool,
      exec (.panelRawChange .hand on) s = .next (s.onEngine fun e =>
        { e with hand := if e.hand.raw = on then e.hand else
          { e.hand with raw := on, timer := if on = e.hand.debounced then none else some s.nowMs } }) ∧
      exec (.panelRawChange .step on) s = .next (s.onEngine fun e =>
        { e with stepButton := if e.stepButton.raw = on then e.stepButton else
          { e.stepButton with raw := on, timer := if on = e.stepButton.debounced then none else some s.nowMs } })) ∧
    (∀ (t : State), s.engine.hand.timer ≠ none → s.engine.hand.raw = true → s.engine.hand.debounced = false →
      t = (s.onEngine fun e => { e with hand := { raw := true, debounced := true, timer := none } }) →
      (s.engine.mode = .run → s.engine.interstage.inFlight = false → exec .handOn s = .next (t.heldBy .panel .none)) ∧
      (s.engine.mode = .run → s.engine.interstage.inFlight = true → exec .handOn s = .next (t.onEngine fun e =>
        { e with hold := { e.hold with pending := true, pendingCause := .panel, budgetPort := .none } })) ∧
      (s.engine.mode = .held → exec .handOn s = .next
        { t with
          engine.hold := { t.engine.hold with cause := .panel, budgetPort := .none }
          history := t.history.take s.nowSec (.hold s.seq.inForce s.seq.stageIndex s.seq.cycleTimer .panel) }) ∧
      (isRunning s.engine.mode = false → exec .handOn s = .next t)) ∧
    (∀ (t : State), s.engine.hand.timer ≠ none → s.engine.hand.raw = false → s.engine.hand.debounced = true →
      t = (s.onEngine fun e => { e with hand := { raw := false, debounced := false, timer := none } }) →
      (s.engine.mode = .held → s.engine.hold.cause = .panel →
        s.engine.slot = none ∨ s.engine.interstage.inFlight = true →
        exec .handOff s = .next t.released.present) ∧
      (s.engine.mode = .held → s.engine.hold.cause = .panel → s.engine.interstage.inFlight = false →
        ∀ r, s.engine.slot = some r → ∃ b, InterstageBegun r { t.released with engine.slot := none } b ∧
          exec .handOff s = .next b.testCompletion.present) ∧
      (s.engine.mode = .held → s.engine.hold.cause ≠ .panel → exec .handOff s = .next t) ∧
      (s.engine.mode = .run → s.engine.hold.pending = true → s.engine.hold.pendingCause = .panel →
        exec .handOff s = .next (t.onEngine fun e =>
          { e with hold := { e.hold with pending := false, pendingCause := .none, budgetPort := .none } })) ∧
      (s.engine.mode = .run → s.engine.hold.pending = false ∨ s.engine.hold.pendingCause ≠ .panel →
        exec .handOff s = .next t) ∧
      (isRunning s.engine.mode = false → exec .handOff s = .next t)) ∧
    (∀ (t : State), s.engine.stepButton.timer ≠ none → s.engine.stepButton.raw = true →
      s.engine.stepButton.debounced = false →
      t = (s.onEngine fun e => { e with stepButton := { raw := true, debounced := true, timer := none } }) →
      (s.engine.mode ≠ .held ∨ s.engine.interstage.inFlight = true → exec .stepPress s = .next t) ∧
      (s.engine.mode = .held → s.engine.interstage.inFlight = false → ∃ u, exec .stepPress s = .next u ∧
        u.engine.stepButton = t.engine.stepButton ∧ u.ports = s.ports ∧
        StepIssued (if s.seq.plan.count ≤ s.seq.stageIndex then 1 else s.seq.stageIndex + 1) s u ∧
        ∀ k, k = (if s.seq.plan.count ≤ s.seq.stageIndex then 1 else s.seq.stageIndex + 1) →
          ∃ b, InterstageBegun (s.seq.requestFor k) (t.stepFormed k) b ∧ u = b.testCompletion.present)) ∧
    (s.engine.stepButton.timer ≠ none → s.engine.stepButton.raw = false → s.engine.stepButton.debounced = true →
      exec .stepTurningOff s = .next (s.onEngine fun e =>
        { e with stepButton := { raw := false, debounced := false, timer := none } }))

/-- R34, R36: RESUME and RUN_STEPS. A port that may release the hold takes HELD back to RUN, RUN_STEPS with its budget
(0 taken as 1), and a request kept in the slot is then begun as an interstage, whose completion test follows; RESUME
gives up a pending hold in RUN, and RUN_STEPS sets the budget there; a port that may not is answered NOT_OWNER; with
nothing to release the answer is WRONG_MODE. That a pending hold given up leaves the budget port NONE is the model's
choice (log 14), as is that the notices of the mode wait in the outbox (log 2). -/
def Obligations.ReleasesTaken : Prop :=
  ∀ (s t : State) (p : Port) (b : BudgetPort) (n : Nat) (cause : HoldCause) (mine : Prop), s.loading = false →
    p = .plan ∧ b = .plan ∨ p = .maintenance ∧ b = .maintenance →
    (cause = if s.engine.mode = .held then s.engine.hold.cause else s.engine.hold.pendingCause) →
    (mine ↔ cause = .planRequest ∨ cause = .stepCount ∧ (p = .plan → s.engine.hold.budgetPort = .plan) ∨
            p = .maintenance ∧ (cause = .maintRequest ∨ cause = .qualifier)) →
    t = (s.onSeq fun q => { q with budget := max 1 n, budgetPort := b }) →
    (s.engine.mode = .held → mine → s.engine.slot = none ∨ s.engine.interstage.inFlight = true →
      exec (.resume p) s = .next (State.ok p 8 [] s.released.present) ∧
      exec (.runSteps p n) s = .next (State.ok p 10 [] t.released.present)) ∧
    (s.engine.mode = .held → mine → s.engine.interstage.inFlight = false → ∀ r, s.engine.slot = some r →
      (∃ b u, InterstageBegun r { s.released with engine.slot := none } b ∧ u = State.ok p 8 [] b.testCompletion.present ∧
        exec (.resume p) s = .next u ∧ u.engine.mode = .run ∧ u.engine.hold = HoldRecord.empty ∧
        u.engine.slot = none ∧ u.engine.interstage.target = r.set ∧ u.engine.interstage.tag = some r.tag ∧
        u.engine.interstage.begunAt = s.engine.clock) ∧
      (∃ b u, InterstageBegun r { t.released with engine.slot := none } b ∧ u = State.ok p 10 [] b.testCompletion.present ∧
        exec (.runSteps p n) s = .next u ∧ u.engine.mode = .run ∧ u.engine.hold = HoldRecord.empty ∧
        u.engine.slot = none ∧ u.engine.interstage.target = r.set ∧ u.engine.interstage.tag = some r.tag ∧
        u.engine.interstage.begunAt = s.engine.clock)) ∧
    (s.engine.mode = .held → ¬ mine →
      exec (.resume p) s = .next (s.refusedWith p 8 .notOwner) ∧
      exec (.runSteps p n) s = .next (s.refusedWith p 10 .notOwner)) ∧
    (s.engine.mode = .run →
      exec (.runSteps p n) s = .next (State.ok p 10 [] t) ∧
      (s.engine.hold.pending = false → exec (.resume p) s = .next (s.refusedWith p 8 .wrongMode)) ∧
      (s.engine.hold.pending = true → mine → exec (.resume p) s = .next (State.ok p 8 [] (s.onEngine fun e =>
        { e with hold := { e.hold with pending := false, pendingCause := .none, budgetPort := .none } }))) ∧
      (s.engine.hold.pending = true → ¬ mine → exec (.resume p) s = .next (s.refusedWith p 8 .notOwner))) ∧
    (isRunning s.engine.mode = false →
      exec (.resume p) s = .next (s.refusedWith p 8 .wrongMode) ∧
      exec (.runSteps p n) s = .next (s.refusedWith p 10 .wrongMode))

/-- R35: STEP, its refusals in order and its effect; without an index it names the next stage in list order. The stage is
formed and requested, its interstage begins, and the completion test follows, whose effects StageRequestTaken says.
Messages sent wait in the outbox (log 2), and what a dropped or renewed correction keeps is the model's choice (log 14). -/
def Obligations.StepTaken : Prop :=
  ∀ (s : State) (p : Port) (index : Option Nat), s.loading = false → p ≠ .monitor →
    (s.engine.mode ≠ .held → exec (.step p index) s = .next (s.refusedWith p 9 .wrongMode)) ∧
    (s.engine.mode = .held → s.engine.interstage.inFlight = true →
      exec (.step p index) s = .next (s.refusedWith p 9 .busy)) ∧
    (s.engine.mode = .held → s.engine.interstage.inFlight = false → ∀ k, index = some k →
      k = 0 ∨ s.seq.plan.count < k → exec (.step p index) s = .next (s.refusedWith p 9 .range)) ∧
    (s.engine.mode = .held → s.engine.interstage.inFlight = false → ∀ k,
      index = some k ∧ 1 ≤ k ∧ k ≤ s.seq.plan.count ∨
      index = none ∧ k = (if s.seq.plan.count ≤ s.seq.stageIndex then 1 else s.seq.stageIndex + 1) →
      ∃ b u, InterstageBegun (s.seq.requestFor k) (s.stepFormed k) b ∧ u = State.ok p 9 [] b.testCompletion.present ∧
        exec (.step p index) s = .next u ∧ StepIssued k s u ∧
        (u.ports.at p).response.map (fun r => r.status) = some .ok)

/-! ## Conflicts, intergreens and the interstage -/

/-- R43, R47: WRITE_CONFLICTS, its refusals in order, and its effect: the matrix is replaced; every VALID plan with a
conflicting pair in a stage becomes INVALID and every enabled entry with one is disabled, and the response lists both;
and inhibition is recomputed; with the target empty, as it is outside RUN and HELD, the withheld flags are kept. How the two
lists are laid out is the model's choice (log 11). -/
def Obligations.WriteConflictsTaken : Prop :=
  ∀ (s : State) (m : Vector GroupSet 16), s.loading = false →
    (isStopped s.engine.mode = false → exec (.writeConflicts m) s = .next (s.refusedWith .monitor 12 .wrongMode)) ∧
    (isStopped s.engine.mode = true → s.saving = true →
      exec (.writeConflicts m) s = .next (s.refusedWith .monitor 12 .busy)) ∧
    (isStopped s.engine.mode = true → s.saving = false →
      ((∃ i j : GroupId, m[i][i] = true ∨ m[i][j] ≠ m[j][i] ∨
        m[i][j] = true ∧ s.typeOf i ≠ .unused ∧ s.typeOf j ≠ .unused ∧
        s.conflicts.ig i j < s.engine.groups[i].ending + s.engine.groups[j].redAmber) →
        exec (.writeConflicts m) s = .next (s.refusedWith .monitor 12 .range)) ∧
      ((∀ i j : GroupId, m[i][i] = false ∧ m[i][j] = m[j][i] ∧
        (m[i][j] = true → s.typeOf i ≠ .unused → s.typeOf j ≠ .unused →
          s.engine.groups[i].ending + s.engine.groups[j].redAmber ≤ s.conflicts.ig i j)) →
        ∃ u, exec (.writeConflicts m) s = .next u ∧ u.conflicts = { s.conflicts with matrix := m } ∧
          (∀ p : PlanId, u.seq.plans[p] =
            if s.seq.plans[p].validity = .valid ∧ u.planConflictFree s.seq.plans[p] = false then
              { s.seq.plans[p] with validity := .invalid }
            else s.seq.plans[p]) ∧
          (∀ e : EntryId, u.seq.substs[e] =
            if s.seq.substs[e].enabled = true ∧ u.conflictFree s.seq.substs[e].set = false then
              { s.seq.substs[e] with enabled := false }
            else s.seq.substs[e]) ∧
          (u.ports.at .monitor).response.map (fun r => r.payload) = some
            (countedList (((List.finRange 8).filter fun p =>
                s.seq.plans[p].validity == .valid && u.seq.plans[p].validity == .invalid).map fun p => p.val + 1) ++
             countedList (((List.finRange 2).filter fun e =>
                s.seq.substs[e].enabled && !u.seq.substs[e].enabled).map fun e => e.val + 1)) ∧
          (∀ g : GroupId, u.engine.groups[g] =
            { s.engine.groups[g] with
              inhibited := u.engine.groups[g].inhibited
              withheld := s.engine.groups[g].withheld || (s.engine.interstage.target[g] &&
                u.engine.groups[g].inhibited && s.engine.groups[g].state != .green &&
                s.engine.groups[g].state != .redAmber) } ∧
            (s.engine.interstage.target = noGroups →
              u.engine.groups[g].withheld = s.engine.groups[g].withheld) ∧
            (u.engine.groups[g].inhibited = true ↔
              ∃ i : GroupId, u.conflict i g = true ∧ s.engine.groups[i].redLost = true)) ∧
          u.seq = { s.seq with plans := u.seq.plans, substs := u.seq.substs } ∧ u.lamps = s.lamps ∧
          u.faults = s.faults ∧ u.history = s.history ∧ u.quals = s.quals ∧ u.store = s.store))

/-- R44, R45: WRITE_INTERGREENS. Parts 1 to 3 are staged in order; part 4 completes the table, which is taken whole when
every conflicting pair keeps its inequality, and refused whole when one does not; the staging is emptied either way. -/
def Obligations.IntergreenParts : Prop :=
  ∀ (s : State) (k : Nat) (rows : Vector IgRow 4), s.loading = false →
    (isStopped s.engine.mode = false → exec (.writeIntergreens k rows) s = .next (s.refusedWith .monitor 13 .wrongMode)) ∧
    (isStopped s.engine.mode = true → s.saving = true →
      exec (.writeIntergreens k rows) s = .next (s.refusedWith .monitor 13 .busy)) ∧
    (isStopped s.engine.mode = true → s.saving = false →
      (k = 0 ∨ 4 < k ∨ 2 ≤ k ∧ s.conflicts.stagedParts ≠ k - 1 →
        exec (.writeIntergreens k rows) s = .next (s.refusedWith .monitor 13 .range)) ∧
      (k = 1 → exec (.writeIntergreens k rows) s = .next (State.ok .monitor 13 [] (s.onConflicts fun t =>
        { t with stagedRows := rows.toList, stagedParts := 1 }))) ∧
      (k = 2 ∨ k = 3 → s.conflicts.stagedParts = k - 1 →
        exec (.writeIntergreens k rows) s = .next (State.ok .monitor 13 [] (s.onConflicts fun t =>
          { t with stagedRows := t.stagedRows ++ rows.toList, stagedParts := k }))) ∧
      (k = 4 → s.conflicts.stagedParts = 3 → ∀ table : Vector IgRow 16,
        (∀ i : GroupId, table[i] = (s.conflicts.stagedRows ++ rows.toList).getD i.val (Vector.replicate 16 0#8)) →
        ((∀ i j : GroupId, s.conflict i j = true →
            s.engine.groups[i].ending + s.engine.groups[j].redAmber ≤ (table[i][j]).toNat) →
          exec (.writeIntergreens k rows) s = .next (State.ok .monitor 13 [] (s.onConflicts fun t =>
            { t with intergreens := table, stagedRows := [], stagedParts := 0 }))) ∧
        ((∃ i j : GroupId, s.conflict i j = true ∧
            (table[i][j]).toNat < s.engine.groups[i].ending + s.engine.groups[j].redAmber) →
          exec (.writeIntergreens k rows) s = .next (State.refusedWith .monitor 13 .range (s.onConflicts fun t =>
            { t with stagedRows := [], stagedParts := 0 })))))

/-- R50, R53, R55, R56, R59: a stage request is dropped outside RUN and HELD; while an interstage is in flight it takes the
slot, or empties it when it asks for the present target; otherwise it begins an interstage at once, whose entering
groups are the typed ones of the set not in GREEN, and the completion test follows. The test completes an interstage in
flight when every entering group is in GREEN or withheld; in RUN the slot's request is then begun, and tested in turn.
Messages to be taken and sent wait in the outbox (log 2), and what a dropped or renewed correction and an emptied hold
keep is the model's choice (log 14). -/
def Obligations.StageRequestTaken : Prop :=
  (∀ (s t : State) (r : StageRequest), s.loading = false → t = s.taking (.stageRequest r) →
    (isRunning s.engine.mode = false → exec (.stageRequest r) s = .next t.present) ∧
    (isRunning s.engine.mode = true → s.engine.interstage.inFlight = true →
      exec (.stageRequest r) s = .next (State.present (t.onEngine fun e =>
        { e with slot := if r.set = s.engine.interstage.target then none else some r }))) ∧
    (isRunning s.engine.mode = true → s.engine.interstage.inFlight = false →
      ∃ b, InterstageBegun r t b ∧ exec (.stageRequest r) s = .next b.testCompletion.present) ∧
    (isRunning s.engine.mode = true → s.engine.interstage.inFlight = false → s.engine.serviceSound →
      ∃ u, exec (.stageRequest r) s = .next u ∧ u.engine.interstage.target = r.set ∧
        u.engine.interstage.tag = some r.tag ∧ u.engine.interstage.begunAt = s.engine.clock ∧
        u.engine.mode = s.engine.mode ∧ u.engine.hold = s.engine.hold ∧ u.engine.slot = s.engine.slot ∧
        (u.engine.interstage.inFlight = true ↔
          ∃ g : GroupId, u.engine.interstage.entering[g] = true ∧ u.engine.groups[g].withheld = false) ∧
        (u.engine.interstage.inFlight = false → u.history.lastStage = r.tag.stage) ∧
        (u.engine.interstage.inFlight = true → u.seq = s.seq ∧ u.history = s.history) ∧
        u.lamps = s.lamps ∧ u.faults = s.faults ∧ u.conflicts = s.conflicts ∧ u.quals = s.quals ∧ u.ports = s.ports ∧
        u.store = s.store)) ∧
  (∀ (s : State) (due : Prop),
    (due ↔ s.engine.interstage.inFlight = true ∧ ∀ g : GroupId, s.engine.interstage.entering[g] = true →
      s.engine.groups[g].state = .green ∨ s.engine.groups[g].withheld = true) →
    (¬ due → s.testCompletion = s) ∧
    (due → ∃ w, InterstageCompleted s w ∧
      (w.engine.mode ≠ .run ∨ s.engine.slot = none → s.testCompletion = w) ∧
      (w.engine.mode = .run → ∀ r, s.engine.slot = some r →
        ∃ b, InterstageBegun r { w with engine.slot := none } b ∧ s.testCompletion = b.testCompletion)))

/-- R53, R57 to R59, R123: a red-loss change sets the group's red_lost from the declared flag as it stands; every group
is then inhibited exactly when one that conflicts with it has lost red; in RUN and HELD a newly inhibited group in
RED_AMBER returns to RED and one in GREEN ends its green at once, minimum red counting from that moment (R60; the flag
that keeps it is the model's, log 30); an inhibited member of the target that is not in GREEN or RED_AMBER is withheld;
and the completion test follows when an entering group has just been withheld. Messages to be taken wait in the outbox
(log 2). -/
def Obligations.RedLossTaken : Prop :=
  ∀ (s : State) (g : GroupId) (d : Bool), s.loading = false →
    d = s.lamps.lamps[coreOf g .R].redLossDeclared →
    (s.engine.groups[g].redLost = d → exec (.redLossChange g) s = .next (s.taking (.redLossChange g))) ∧
    (s.engine.groups[g].redLost ≠ d → ∃ v : State,
      v = { s.taking (.redLossChange g) with engine.groups := v.engine.groups } ∧
      (∀ h : GroupId,
        (v.engine.groups[h].inhibited = true ↔
          ∃ i : GroupId, s.conflict i h = true ∧ (if i = g then d else s.engine.groups[i].redLost) = true) ∧
        ∀ (newly : Prop) (shown : GroupState), (newly ↔ isRunning s.engine.mode = true ∧
            v.engine.groups[h].inhibited = true ∧ s.engine.groups[h].inhibited = false) →
          shown = v.engine.groups[h].state →
          (newly → s.engine.groups[h].state = .redAmber → shown = .red ∧ v.engine.groups[h].timeInState = 0) ∧
          (newly → s.engine.groups[h].state = .green →
            shown = (if s.engine.groups[h].type = .pedestrian then .clearance else .amber) ∧
            v.engine.groups[h].timeInState = 0 ∧ v.engine.groups[h].lastGreenEnd = s.engine.clock) ∧
          (¬ newly ∨ s.engine.groups[h].state ∉ [GroupState.redAmber, .green] →
            shown = s.engine.groups[h].state ∧ v.engine.groups[h].timeInState = s.engine.groups[h].timeInState) ∧
          (¬ newly ∨ s.engine.groups[h].state ≠ .green →
            v.engine.groups[h].lastGreenEnd = s.engine.groups[h].lastGreenEnd) ∧
          (newly → s.engine.groups[h].state = .green → v.engine.groups[h].cutShort = true) ∧
          (newly → s.engine.groups[h].state = .redAmber → v.engine.groups[h].cutShort = false) ∧
          (¬ newly ∨ s.engine.groups[h].state ∉ [GroupState.redAmber, .green] →
            v.engine.groups[h].cutShort = s.engine.groups[h].cutShort) ∧
          v.engine.groups[h] =
            { s.engine.groups[h] with
              state := shown
              timeInState := v.engine.groups[h].timeInState
              lastGreenEnd := v.engine.groups[h].lastGreenEnd
              cutShort := v.engine.groups[h].cutShort
              redLost := if h = g then d else s.engine.groups[h].redLost
              inhibited := v.engine.groups[h].inhibited
              withheld := s.engine.groups[h].withheld ||
                (s.engine.interstage.target[h] && v.engine.groups[h].inhibited && shown != .green &&
                 shown != .redAmber) }) ∧
      ((∃ h : GroupId, s.engine.interstage.entering[h] = true ∧ v.engine.groups[h].withheld = true ∧
          s.engine.groups[h].withheld = false) →
        exec (.redLossChange g) s = .next v.testCompletion.present) ∧
      ((∀ h : GroupId, s.engine.interstage.entering[h] = true → v.engine.groups[h].withheld = true →
          s.engine.groups[h].withheld = true) →
        exec (.redLossChange g) s = .next v.present))

/-! ## Plans, the sequence and synchronisation -/

/-- R61, R63, R64: WRITE_PLAN, its refusals in order. A part 1 of more than six stages is staged; a shorter one, or a
part 2 of the plan staged, completes the write: the staging is emptied, a field out of range is refused with RANGE, a
stage holding a conflicting pair with CONFLICT, and otherwise the plan record is replaced. The plan is taken exactly
when the arguments lie within R61, and its fields are those of the arguments, with the stage records past n 0 (R172).
That a flag byte above 0x01 is outside its range is the model's choice (log 19). -/
def Obligations.WritePlanTaken : Prop :=
  (∀ (s t : State) (p : PlanId) (cy off sy di n : Nat) (st : List StageArgs), s.loading = false → s.saving = false →
    t = (s.onSeq fun q => { q with staging := none }) →
    (s.seq.inForce = p ∨ s.seq.pendingPlan = some p →
      exec (.writePlan (.one (p.val + 1) cy off sy di n st)) s = .next (s.refusedWith .plan 17 .inUse) ∧
      exec (.writePlan (.two (p.val + 1) st)) s = .next (s.refusedWith .plan 17 .inUse)) ∧
    (s.seq.inForce ≠ p → s.seq.pendingPlan ≠ some p →
      (6 < n → exec (.writePlan (.one (p.val + 1) cy off sy di n st)) s =
        .next (State.ok .plan 17 [] (s.onSeq fun q =>
          { q with staging := some (PlanStaging.mk p cy off sy di n st) }))) ∧
      (n ≤ 6 → exec (.writePlan (.one (p.val + 1) cy off sy di n st)) s =
        .next (match wholePlan cy off sy di n st with
          | none => t.refusedWith .plan 17 .range
          | some plan =>
            if st.all fun x => s.conflictFree x.set then
              State.ok .plan 17 [] (t.onSeq fun q => { q with plans := put q.plans p plan })
            else t.refusedWith .plan 17 .conflict)) ∧
      (∀ g, s.seq.staging = some g → g.plan = p → 6 < g.count →
        exec (.writePlan (.two (p.val + 1) st)) s =
          .next (match wholePlan g.cycle g.offset g.sync g.dim g.count (g.stages ++ st) with
            | none => t.refusedWith .plan 17 .range
            | some plan =>
              if (g.stages ++ st).all fun x => s.conflictFree x.set then
                State.ok .plan 17 [] (t.onSeq fun q => { q with plans := put q.plans p plan })
              else t.refusedWith .plan 17 .conflict)) ∧
      ((∀ g, s.seq.staging = some g → g.plan ≠ p ∨ g.count ≤ 6) →
        exec (.writePlan (.two (p.val + 1) st)) s = .next (s.refusedWith .plan 17 .range)))) ∧
  (∀ (s : State) (part : PlanPart), s.loading = false → s.saving = true →
    exec (.writePlan part) s = .next (s.refusedWith .plan 17 .busy)) ∧
  (∀ (s : State) (part : PlanPart) (m cy off sy di n : Nat) (st : List StageArgs), s.loading = false →
    s.saving = false →
    (m = 0 ∨ 8 < m) ∧ (part = .one m cy off sy di n st ∨ part = .two m st) ∨ part = .other m →
    exec (.writePlan part) s = .next (s.refusedWith .plan 17 .range)) ∧
  (∀ (cy off sy di n : Nat) (st : List StageArgs) (plan : Plan), wholePlan cy off sy di n st = some plan →
    plan.cycle = cy ∧ plan.offset = off ∧ plan.count = n ∧ plan.validity = .valid ∧ st.length = n ∧
    300 ≤ cy ∧ cy ≤ 2400 ∧ off < cy ∧ 2 ≤ n ∧ n ≤ 12 ∧
    (∀ k, 1 ≤ k → k ≤ n → (plan.stage k).endPoint < cy ∧ (plan.stage k).stageMin ≤ 600 ∧
      (plan.stage k).stageMin ≤ (plan.stage k).stageMax ∧ (plan.stage k).stageMax ≤ 1200 ∧
      ((plan.stage k).elastic = true → (plan.stage k).demandDependent = false) ∧
      (k < n → (plan.stage k).endPoint < (plan.stage (k + 1)).endPoint)) ∧
    (∃ k, 1 ≤ k ∧ k ≤ n ∧ (plan.stage k).elastic = true ∧
      ∀ j, 1 ≤ j → j ≤ n → (plan.stage j).elastic = true → j = k)) ∧
  (∀ (cy off sy di n : Nat) (st : List StageArgs) (plan : Plan),
    wholePlan cy off sy di n st = some plan ↔
      (300 ≤ cy ∧ cy ≤ 2400 ∧ off < cy ∧ sy ≤ 1 ∧ di ≤ 1 ∧ 2 ≤ n ∧ n ≤ 12 ∧ st.length = n ∧
        (∀ a ∈ st, a.endPoint < cy ∧ a.stageMin ≤ 600 ∧ a.stageMin ≤ a.stageMax ∧ a.stageMax ≤ 1200 ∧
          a.demandDependent ≤ 1 ∧ a.elastic ≤ 1 ∧ ¬ (a.elastic = 1 ∧ a.demandDependent = 1)) ∧
        st.Pairwise (fun a a' => a.endPoint < a'.endPoint) ∧
        st.countP (fun a => a.elastic == 1) = 1) ∧
      plan =
        { cycle := cy
          offset := off
          sync := decide (sy = 1)
          dim := decide (di = 1)
          count := n
          stages := Vector.ofFn fun k => match st[k.val]? with
            | some a =>
              { set := a.set, endPoint := a.endPoint, stageMin := a.stageMin, stageMax := a.stageMax,
                demandDependent := decide (a.demandDependent = 1), elastic := decide (a.elastic = 1) }
            | none =>
              { set := noGroups, endPoint := 0, stageMin := 0, stageMax := 0, demandDependent := false,
                elastic := false }
          validity := .valid })

/-- R66, R77, R78: SELECT_PLAN, DEMAND and EXTEND with their refusals. -/
def Obligations.PlanRequestsTaken : Prop :=
  ∀ (s : State) (p : PlanId) (k : Fin 12) (x : Nat), s.loading = false →
    (s.seq.plans[p].validity = .invalid →
      exec (.selectPlan (p.val + 1)) s = .next (s.refusedWith .plan 19 .invalidPlan)) ∧
    (s.seq.plans[p].validity = .valid → isRunning s.engine.mode = true →
      exec (.selectPlan (p.val + 1)) s = .next (State.ok .plan 19 [] (s.onSeq fun q =>
        { q with pendingPlan := if p = s.seq.inForce then none else some p }))) ∧
    (s.seq.plans[p].validity = .valid → isRunning s.engine.mode = false →
      exec (.selectPlan (p.val + 1)) s =
        .next (State.ok .plan 19 [] (State.present (s.onSeq fun q => { q with inForce := p })))) ∧
    (x = 0 ∨ 8 < x → exec (.selectPlan x) s = .next (s.refusedWith .plan 19 .range)) ∧
    (k.val + 1 ≤ s.seq.plan.count →
      exec (.demand (k.val + 1)) s =
        .next (State.ok .plan 20 [] (State.present (s.onSeq fun q => { q with demands := put q.demands k true })))) ∧
    (x = 0 ∨ s.seq.plan.count < x → exec (.demand x) s = .next (s.refusedWith .plan 20 .range)) ∧
    (s.engine.mode = .run → 1 ≤ x → x ≤ 100 →
      exec (.extend x) s = .next (State.ok .plan 21 [] (s.onSeq fun q =>
        { q with extensionEnd := min q.running.stageMax (max q.extensionEnd (q.stageTimer + x)) }))) ∧
    (s.engine.mode = .run → x = 0 ∨ 100 < x → exec (.extend x) s = .next (s.refusedWith .plan 21 .range)) ∧
    (s.engine.mode ≠ .run → exec (.extend x) s = .next (s.refusedWith .plan 21 .wrongMode))

/-- R70, R79 to R81: WRITE_SUBST, ENABLE_SUBST and DISABLE_SUBST with their refusals in order; an entry written is
disabled; and what the running stage takes from a matching entry. The model's choices are that a demand flag byte above 0x01
is outside its range (log 19) and that entry 1 is taken where both entries match (log 33). -/
def Obligations.SubstitutionsTaken : Prop :=
  (∀ (s : State) (e other : EntryId) (p : PlanId) (n m k lo hi d : Nat) (set : GroupSet), s.loading = false → e ≠ other →
    (s.saving = true →
      exec (.writeSubst n m k set lo hi d) s = .next (s.refusedWith .plan 22 .busy) ∧
      exec (.enableSubst n) s = .next (s.refusedWith .plan 23 .busy) ∧
      exec (.disableSubst n) s = .next (s.refusedWith .plan 24 .busy)) ∧
    (s.saving = false →
      (n = 0 ∨ 2 < n ∨ m = 0 ∨ 8 < m ∨ k = 0 ∨ 12 < k ∨ 600 < lo ∨ hi < lo ∨ 1200 < hi ∨ 1 < d →
        exec (.writeSubst n m k set lo hi d) s = .next (s.refusedWith .plan 22 .range)) ∧
      (n = 0 ∨ 2 < n →
        exec (.enableSubst n) s = .next (s.refusedWith .plan 23 .range) ∧
        exec (.disableSubst n) s = .next (s.refusedWith .plan 24 .range)) ∧
      (1 ≤ k → k ≤ 12 → lo ≤ 600 → lo ≤ hi → hi ≤ 1200 → d ≤ 1 →
        exec (.writeSubst (e.val + 1) (p.val + 1) k set lo hi d) s = .next (
          if s.seq.substs[e].enabled = true then s.refusedWith .plan 22 .armed
          else if s.seq.substs[other].plan = p ∧ s.seq.substs[other].stage = k then s.refusedWith .plan 22 .inUse
          else if s.conflictFree set = false then s.refusedWith .plan 22 .conflict
          else State.ok .plan 22 [] (State.present (s.onSeq fun q =>
            { q with substs := put q.substs e (SubstEntry.mk p k set lo hi (d == 1) false) })))) ∧
      exec (.enableSubst (e.val + 1)) s = .next (
        if s.conflictFree s.seq.substs[e].set = false then s.refusedWith .plan 23 .conflict
        else State.ok .plan 23 [] (State.present (s.onSeq fun q =>
          { q with substs := put q.substs e { q.substs[e] with enabled := true } }))) ∧
      exec (.disableSubst (e.val + 1)) s = .next (State.ok .plan 24 [] (State.present (s.onSeq fun q =>
        { q with substs := put q.substs e { q.substs[e] with enabled := false } }))))) ∧
  -- the running stage that a request forms
  (∀ (q : Sequencer) (k : Nat) (st : Stage) (matching : EntryId → Prop) (plain : RunningStage),
    st = q.plan.stage k →
    (∀ e, matching e ↔ q.substs[e].enabled = true ∧ q.substs[e].plan = q.inForce ∧ q.substs[e].stage = k ∧
      k ≤ q.plan.count) →
    plain =
      { plan := q.inForce
        index := k
        set := st.set
        endPoint := st.endPoint
        precedingEnd := (q.plan.stage (if k ≤ 1 then q.plan.count else k - 1)).endPoint
        stageMin := st.stageMin
        stageMax := st.stageMax
        demandDependent := st.demandDependent
        elastic := st.elastic
        substituted := false } →
    ((∀ e, ¬ matching e) → q.form k = plain) ∧
    (∀ e, matching e → e = 0 ∨ ¬ matching 0 → q.form k =
      { plain with
        set := q.substs[e].set
        stageMin := q.substs[e].stageMin
        stageMax := q.substs[e].stageMax
        demandDependent := q.substs[e].demandFlag && !st.elastic
        substituted := true }))

/-- R68, R69, R72 to R76, R89 to R92: the sequencer tick. The cycle timer is 0 outside RUN and HELD, frozen in HELD, and
in RUN moves by 1 ds, by 2 ds while shortening and by 0 ds while lengthening; an application counts down and ends with
its last decisecond; the stage timer moves in RUN while the stage is TIMING. At the wrap a pending plan comes into
force: its stage 1 is requested when its set differs from that of the latest request, and otherwise takes the running
stage's place with the state and the timer kept. Then the deferral ends in the tick that brings the cycle timer round to
the preceding end point, and not before: for a stage deferred before it was due that is the model's reading (log 31).
And in RUN a TIMING stage that is not deferred ends at its maximum, or when it is due with its minimum and extension
run: the first stage in list order that is not skipped is requested, each one skipped making a SKIP entry, and with all
skipped the stage is deferred. The loss watch is compared last, against the plan now in force: that place is the model's
choice (log 17). Messages taken and sent wait in the outbox (log 2), a dropped correction keeps its figures (log 14),
and a plan with cycle time 0 makes no wrap and leaves a remainder as it is, 0 for a negative number (log 22). -/
def Obligations.TickMovesSequence : Prop :=
  ∀ (s t : State) (moved timer : Nat) (c : Correction), s.loading = false → t = s.taking .sequencerTick →
    moved = (if s.engine.mode = .run then
        s.seq.cycleTimer + (if s.seq.correction.state = .applying then
          (if s.seq.correction.direction = .shorten then 2 else 0) else 1)
      else if s.engine.mode = .held then s.seq.cycleTimer else 0) →
    timer = (if s.engine.mode = .run ∧ s.seq.state = .timing then min 65535 (s.seq.stageTimer + 1)
      else s.seq.stageTimer) →
    c = (if s.engine.mode = .run ∧ s.seq.correction.state = .applying then
        (if s.seq.correction.remaining ≤ 1 then { s.seq.correction with state := .none, remaining := 0 }
         else { s.seq.correction with remaining := s.seq.correction.remaining - 1 })
      else s.seq.correction) →
    ∃ (v w x : State),
      -- the wrap
      (s.seq.plan.cycle = 0 ∨ moved < s.seq.plan.cycle →
        v = { t with seq := { s.seq with cycleTimer := moved, stageTimer := timer, correction := c } }) ∧
      (0 < s.seq.plan.cycle → s.seq.plan.cycle ≤ moved → ∀ wrapped : Sequencer,
        wrapped =
          { s.seq with cycleTimer := moved - s.seq.plan.cycle, stageTimer := timer, correction := c } →
        (s.seq.pendingPlan = none → v = { t with seq := wrapped }) ∧
        (∀ (p : PlanId) (q : Sequencer) (first : RunningStage), s.seq.pendingPlan = some p →
          q = { wrapped with
                inForce := p
                pendingPlan := none
                stageIndex := 1
                extensionEnd := 0
                deferred := false
                correction := { c with state := .none, remaining := 0 }
                sync := if s.seq.plans[p].sync = false then { s.seq.sync with watch := .inactive }
                        else if s.seq.plan.sync = false then
                          { s.seq.sync with watch := .running, watchStart := s.engine.clock }
                        else s.seq.sync } →
          first = q.form 1 →
          v = { t with
                engine.dimOn := s.seq.plans[p].dim
                history := s.history.take s.nowSec (.plan p q.cycleTimer)
                outbox := t.outbox ++
                  (if s.engine.dimOn = s.seq.plans[p].dim then [] else [.dimChange s.seq.plans[p].dim]) ++
                  (if first.set = s.seq.latest.set then [] else [.stageRequest
                    { set := first.set, tag := ⟨p, 1, first.substituted, q.cycleTimer⟩ }])
                seq := if first.set = s.seq.latest.set then { q with running := first }
                  else
                    { q with
                      running := first
                      stageTimer := 0
                      latest := { set := first.set, tag := some ⟨p, 1, first.substituted, q.cycleTimer⟩ }
                      state := .awaiting } })) ∧
      -- the ending of the running stage
      (∀ (past : Nat → Nat) (due round ends : Prop) (order : List Nat) (skipped : Nat → Prop),
        past = (fun (value : Nat) => (((value : Int) - v.seq.running.precedingEnd) % (v.seq.plan.cycle : Int)).toNat) →
        (due ↔ past v.seq.running.endPoint ≤ past v.seq.cycleTimer) →
        (round ↔ past v.seq.cycleTimer < past s.seq.cycleTimer) →
        (ends ↔ s.engine.mode = .run ∧ v.seq.state = .timing ∧ (v.seq.deferred = true → round) ∧
          (v.seq.running.stageMax ≤ v.seq.stageTimer ∨
           due ∧ v.seq.running.stageMin ≤ v.seq.stageTimer ∧ v.seq.extensionEnd ≤ v.seq.stageTimer)) →
        order = List.range' (v.seq.stageIndex + 1) (v.seq.plan.count - v.seq.stageIndex) ++
          List.range' 1 (v.seq.stageIndex - 1) →
        (∀ k, skipped k ↔ (v.seq.form k).demandDependent = true ∧ v.seq.latched k = false) →
        (¬ ends → (round → w = { v with seq.deferred := false }) ∧ (¬ round → w = v)) ∧
        (ends → ∀ (passed later : List Nat) (k : Nat), order = passed ++ k :: later → (∀ j ∈ passed, skipped j) →
          ¬ skipped k →
          w = { v with
                history := passed.foldl (fun h j => h.take s.nowSec
                  (.skip v.seq.inForce v.seq.stageIndex j v.seq.cycleTimer)) v.history
                outbox := v.outbox ++ [.stageRequest
                  { set := (v.seq.form k).set
                    tag := ⟨v.seq.inForce, k, (v.seq.form k).substituted, v.seq.cycleTimer⟩ }]
                seq :=
                  { v.seq with
                    stageIndex := k
                    running := v.seq.form k
                    extensionEnd := 0
                    deferred := false
                    stageTimer := 0
                    latest := { set := (v.seq.form k).set,
                                tag := some ⟨v.seq.inForce, k, (v.seq.form k).substituted, v.seq.cycleTimer⟩ }
                    state := .awaiting } }) ∧
        (ends → (∀ j ∈ order, skipped j) →
          w = { v with
                history := order.foldl (fun h j => h.take s.nowSec
                  (.skip v.seq.inForce v.seq.stageIndex j v.seq.cycleTimer)) v.history
                seq.deferred := true })) ∧
      -- the loss watch, and the outputs
      (w.seq.sync.watch = .running → 3 * w.seq.plan.cycle ≤ elapsed s.engine.clock w.seq.sync.watchStart →
        x = State.raise .syncLost .none { w with seq.sync := { w.seq.sync with watch := .expired } }) ∧
      (w.seq.sync.watch ≠ .running ∨ elapsed s.engine.clock w.seq.sync.watchStart < 3 * w.seq.plan.cycle → x = w) ∧
      exec .sequencerTick s = .next x.present

/-- R83 to R87, R89, R90, R92, R93: the sync input's filter, whose 20 ms StepTakesFrontCommand says, the counted pulse
with its error in (−C/2, C/2], the expiry of the loss watch after three cycles, and the end of a correction with nothing
left. A record that becomes NONE keeps its direction, amount, K and P (R87). Two of these are taken only when they are
due (log 9), storing a correction empties the rest of the record and one become NONE has remaining 0 ds (log 14), and a
fall leaves HIGH at once, as the table of R83 has it (log 32). -/
def Obligations.SyncTaken : Prop :=
  ∀ s : State, s.loading = false →
    exec .syncInputRise s = .next (s.onSeq fun q => { q with sync :=
      if q.sync.filter = .low then { q.sync with input := true, filter := .rising, timer := some s.nowMs }
      else { q.sync with input := true } }) ∧
    exec .syncInputFall s = .next (s.onSeq fun q => { q with sync :=
      { q.sync with input := false, filter := .low, timer := none } }) ∧
    (s.seq.sync.filter = .rising → isRunning s.engine.mode = false ∨ s.seq.plan.sync = false →
      exec .countedPulse s = .next (State.onSeq (s.clear .syncLost .none) fun q => { q with sync :=
        { q.sync with filter := .high, timer := none, lastPulse := some s.engine.clock } })) ∧
    (s.seq.sync.filter = .rising → isRunning s.engine.mode = true → s.seq.plan.sync = true → 0 < s.seq.plan.cycle →
      ∃ (u : State) (e : Int), exec .countedPulse s = .next u ∧ -(s.seq.plan.cycle : Int) < 2 * e ∧
        2 * e ≤ s.seq.plan.cycle ∧ (s.seq.plan.cycle : Int) ∣ s.seq.plan.offset - s.seq.cycleTimer - e ∧
        u.seq.sync =
          { s.seq.sync with
            filter := .high
            timer := none
            lastPulse := some s.engine.clock
            lastCycleTimer := s.seq.cycleTimer
            lastPlan := some s.seq.inForce
            lastError := e
            inStep := decide (e.natAbs ≤ 2)
            watch := .running
            watchStart := s.engine.clock } ∧
        (e.natAbs ≤ 2 → u.seq.correction = { s.seq.correction with state := .none, remaining := 0 }) ∧
        (2 < e.natAbs → u.seq.correction =
          { state := .stored, direction := if 0 < e then .shorten else .lengthen, amount := e.natAbs, applied := 0,
            remaining := 0, planned := 0 }) ∧
        u = { s with
              seq := { s.seq with sync := u.seq.sync, correction := u.seq.correction }
              faults := (s.clear .syncLost .none).faults }) ∧
    (s.seq.sync.watch = .running → 3 * s.seq.plan.cycle ≤ elapsed s.engine.clock s.seq.sync.watchStart →
      exec .syncWatchExpiry s =
        .next (State.raise .syncLost .none (s.onSeq fun q => { q with sync := { q.sync with watch := .expired } }))) ∧
    (s.seq.correction.state = .applying → s.seq.correction.remaining = 0 →
      exec .correctionSpent s = .next (s.onSeq fun q => { q with correction := { q.correction with state := .none } }))

/-! ## Lamps -/

/-- R102: WRITE_SCAN, its refusals in order and its effect; a change of scan mode also drops the frame in progress, takes
every X aspect's latch, and in THREE_ROW makes every X aspect UNSCANNED. The slot in progress runs on with its row selected:
that this holds of row X in THREE_ROW too is the model's choice (log 35). -/
def Obligations.ScanWritten : Prop :=
  ∀ (s : State) (m : ScanMode) (k f n : Nat), s.loading = false →
    (isStopped s.engine.mode = false → exec (.writeScan k f n) s = .next (s.refusedWith .plan 28 .wrongMode)) ∧
    (isStopped s.engine.mode = true → s.saving = true →
      exec (.writeScan k f n) s = .next (s.refusedWith .plan 28 .busy)) ∧
    (isStopped s.engine.mode = true → s.saving = false →
      (2 ≤ k ∨ n < 10 ∨ 200 < n → exec (.writeScan k f n) s = .next (s.refusedWith .plan 28 .range)) ∧
      (k = codeOf scanModes m → 10 ≤ n → n ≤ 200 → ∃ u : LampUnit,
        exec (.writeScan k f n) s = .next (State.ok .plan 28 [] { s with lamps := u }) ∧
        (m = s.lamps.scanMode → u = { s.lamps with filter := max 2 (min 15 f), threshold := n }) ∧
        (m ≠ s.lamps.scanMode → u =
          { s.lamps with
            scanMode := m
            filter := max 2 (min 15 f)
            threshold := n
            slotIndex := 0
            scan := u.scan
            lamps := u.lamps } ∧
          ∀ c : CoreId,
            u.scan[c] =
              { s.lamps.scan[c] with
                latched := if letterOf c = .X then .none else s.lamps.scan[c].latched
                reading := none
                changed := false } ∧
            u.lamps[c] =
              { s.lamps.lamps[c] with
                lastClass := if letterOf c = .X ∧ m = .threeRow then .unscanned else s.lamps.lamps[c].lastClass })))

/-- R1, R99, R111, R120, R121, R136: WRITE_LAMP and LEARN, with their refusals. A lamp record written has its counts
at the new fitted count and its runs at 0, its aspect loses its latch, and none of the aspect's LAMP_UNCERTAIN,
LAMP_OVERLOAD and UNEXPECTED_CURRENT faults stays ACTIVE; a fitted count of 0 takes the core out of test and out of
the queue, and any change of the fitted count is a selection. The answer is OK, and nothing else changes. That a fitted
count of 0 also ends a cyclic test is the model's choice (log 20), as is that a frozen flag byte above 0x01 is outside its
range (log 19). -/
def Obligations.LampWritten : Prop :=
  ∀ (s : State) (c : CoreId) (t : LampType) (z : Bool) (a n ty b d l tol zc : Nat), s.loading = false →
    (s.saving = true → exec (.writeLamp a n ty b d l tol zc) s = .next (s.refusedWith .plan 31 .busy)) ∧
    (s.saving = false → a = 0 ∨ 64 < a ∨ 4 < n ∨ 2 ≤ ty ∨ b < 16 ∨ 65520 < b ∨ d < 16 ∨ 65520 < d ∨ 200 < l ∨ 2 ≤ zc →
      exec (.writeLamp a n ty b d l tol zc) s = .next (s.refusedWith .plan 31 .range)) ∧
    (s.saving = false → a = c.val + 1 → ty = codeOf lampTypes t → zc = (if z then 1 else 0) →
      (0 < n ∧ notFitted (s.typeOf (groupOf c)) (letterOf c) = true ∨ b < (if t = .filament then 16 else 320) ∨
        d < (if t = .filament then 16 else 320) →
        exec (.writeLamp a n ty b d l tol zc) s = .next (s.refusedWith .plan 31 .range)) ∧
      (n = 0 ∨ notFitted (s.typeOf (groupOf c)) (letterOf c) = false → n ≤ 4 → (if t = .filament then 16 else 320) ≤ b →
        b ≤ 65520 → (if t = .filament then 16 else 320) ≤ d → d ≤ 65520 → l ≤ 200 →
        ∃ u, exec (.writeLamp a n ty b d l tol zc) s = .next u ∧
          u.lamps =
            { s.lamps with
              lamps := put s.lamps.lamps c
                { s.lamps.lamps[c] with
                  fitted := n
                  type := t
                  bright := b
                  dim := d
                  leak := l
                  tolerance := max 1 (min 8 tol)
                  frozen := z
                  candidate := n
                  proven := n
                  candidateRun := 0
                  doubtfulRun := 0
                  unexpectedRun := 0
                  overloadRun := 0
                  quietRun := 0
                  learn := .none }
              scan := put s.lamps.scan c
                { s.lamps.scan[c] with
                  latched := .none
                  changed := s.lamps.scan[c].changed || decide (s.lamps.slotIndex ≠ 0) } } ∧
          (∀ r ∈ u.faults.records, r.subject = .aspect c →
            r.kind = .lampUncertain ∨ r.kind = .lampOverload ∨ r.kind = .unexpectedCurrent → r.state = .inactive) ∧
          (n = s.fitted c → u.cable = s.cable) ∧
          (0 < n → n ≠ s.fitted c → u.cable = (State.select { s with lamps := u.lamps }).cable) ∧
          (n = 0 → n ≠ s.fitted c →
            (∀ f, u.cable.flight = some f → f.core ≠ c) ∧ (∀ e ∈ u.cable.queue, e.core ≠ c) ∧
            ∀ left : List QueueEntry, left = s.cable.queue.filter (fun e => e.core ≠ c) →
              ((∀ f, s.cable.flight = some f → f.core ≠ c) →
                u.cable = (State.select { s with lamps := u.lamps, cable.queue := left }).cable) ∧
              (∀ f, s.cable.flight = some f → f.core = c → u.cable = (State.select
                { s with
                  lamps := u.lamps
                  cable :=
                    { s.cable with
                      queue := left
                      flight := none
                      lastTestEnd := s.nowMs
                      intervalPassed := false
                      intervalTimer := true
                      cyclicRunning := s.cable.cyclicRunning && !s.cable.stopWaiting
                      stopWaiting := false
                      records := put s.cable.records c
                        { s.cable.records[c] with
                          cls := .interrupted
                          interrupted := min 255 (s.cable.records[c].interrupted + 1)
                          lastTest := s.nowSec } } }).cable)) ∧
          u.faults = (((s.clear .lampUncertain (.aspect c)).clear .lampOverload (.aspect c)).clear .unexpectedCurrent
            (.aspect c)).faults ∧
          u = State.ok .plan 31 [] { s with lamps := u.lamps, cable := u.cable, faults := u.faults })) ∧
    (a = 0 ∨ 64 < a → exec (.learn a) s = .next (s.refusedWith .maintenance 32 .range)) ∧
    (a = c.val + 1 → s.fitted c = 0 ∨ s.lamps.scanMode = .threeRow ∧ letterOf c = .X →
      exec (.learn a) s = .next (s.refusedWith .maintenance 32 .range)) ∧
    (a = c.val + 1 → 0 < s.fitted c → ¬ (s.lamps.scanMode = .threeRow ∧ letterOf c = .X) →
      exec (.learn a) s = .next (State.ok .maintenance 32 []
        { s with
          lamps.lamps := put s.lamps.lamps c { s.lamps.lamps[c] with learn := .darkPending }
          lamps.scan := put s.lamps.scan c
            { s.lamps.scan[c] with
              latched := .none
              changed := s.lamps.scan[c].changed || decide (s.lamps.slotIndex ≠ 0) } }))

/-- R97 to R101, R103, R104, R107, R108: a zero-cross edge within 6 ms of the last counted one is ignored while
scanning; after a suspension, or a change of scan mode, it starts slot 1; within a frame it stores the readings of the
slot that ends and starts the next, whose row is then selected; and the edge that ends the last slot completes the
frame: every aspect's work is done, the settle counts and latches follow, the raises, clears and messages are made in
the order of R107, the frame sequence moves on, the snapshot is of this moment, and slot 1 starts with an empty frame. A
slot start latches the aspects of its row. Six points are the model's: a reading beyond the range is clamped (log 16),
messages wait in the outbox (log 2), a slot start latches the level that the unit has seen (log 26), a latch that
restarts settling sets the count of the lamp type also below the frames of a dim change (log 34), and the snapshot takes
the engine's mode as it is built (log 10), before a red-loss change of this frame is taken (log 28). -/
def Obligations.ZeroCrossTaken : Prop :=
  (∀ (s x : State) (rd : Vector Reading 16) (works : CoreId → LampOutcome), s.loading = false →
    x = { s with lamps := s.lamps.endSlot rd } → (∀ c : CoreId, works c = x.aspectWork c) →
    (s.lamps.scanState = .scanning → elapsed s.nowMs s.lamps.lastZeroCross < 6 → exec (.zeroCross rd) s = .next s) ∧
    (s.lamps.scanState = .suspended ∨
        s.lamps.slotIndex = 0 ∧ 6 ≤ elapsed s.nowMs s.lamps.lastZeroCross →
      ∃ u, exec (.zeroCross rd) s = .next u ∧ u.lamps.scanState = .scanning ∧
      u.lamps.slotIndex = 1 ∧ u.lamps.rowSelect = .R ∧ u.lamps.lastZeroCross = s.nowMs ∧
      u.lamps.frameSequence = s.lamps.frameSequence ∧
      (∀ c : CoreId, u.lamps.scan[c] =
        if letterOf c = .R then s.lamps.scan[c].latch (s.seenLevel c) s.lamps.lamps[c].type
        else s.lamps.scan[c]) ∧
      u = { s with lamps :=
        { s.lamps with
          scanState := .scanning
          slotIndex := 1
          rowSelect := .R
          lastZeroCross := s.nowMs
          scan := u.lamps.scan } }) ∧
    (s.lamps.scanState = .scanning → 6 ≤ elapsed s.nowMs s.lamps.lastZeroCross →
      (1 ≤ s.lamps.slotIndex → s.lamps.slotIndex < slotsOf s.lamps.scanMode →
        ∃ u, exec (.zeroCross rd) s = .next u ∧ u.lamps.slotIndex = s.lamps.slotIndex + 1 ∧
          u.lamps.lastZeroCross = s.nowMs ∧ u.lamps.frameSequence = s.lamps.frameSequence ∧
          (∀ next : Letter, next = (if s.lamps.slotIndex = 1 then .A else if s.lamps.slotIndex = 2 then .G else .X) →
            u.lamps.rowSelect = next ∧ ∀ (c : CoreId) (a : ScanAspect),
              a = (if letterOf c = s.lamps.rowSelect then
                { s.lamps.scan[c] with
                  reading := some { rd[groupOf c] with raw := min 4095 rd[groupOf c].raw }
                  changed := s.lamps.scan[c].changed || s.lamps.scan[c].moved }
              else s.lamps.scan[c]) →
              u.lamps.scan[c] =
                if letterOf c = next then a.latch (s.seenLevel c) s.lamps.lamps[c].type else a) ∧
          u = { s with lamps :=
            { s.lamps with
              slotIndex := s.lamps.slotIndex + 1
              rowSelect := u.lamps.rowSelect
              lastZeroCross := s.nowMs
              scan := u.lamps.scan } }) ∧
      (s.lamps.slotIndex = slotsOf s.lamps.scanMode →
        (∀ c : CoreId, x.lamps.scan[c] =
          if letterOf c = s.lamps.rowSelect then
            { s.lamps.scan[c] with
              reading := some { rd[groupOf c] with raw := min 4095 rd[groupOf c].raw }
              changed := s.lamps.scan[c].changed || s.lamps.scan[c].moved }
          else s.lamps.scan[c]) ∧
        ∃ u, exec (.zeroCross rd) s = .next u ∧ u.lamps.slotIndex = 1 ∧ u.lamps.rowSelect = .R ∧
          u.lamps.lastZeroCross = s.nowMs ∧ u.lamps.frameSequence = s.lamps.frameSequence + 1 ∧ u.lamps.dimChanged = false ∧
          (∀ c : CoreId, u.lamps.lamps[c] = (works c).lamp ∧
            ∀ (scanned : Prop) (a : ScanAspect), (scanned ↔ x.lamps.classify c ≠ .unscanned) →
              (scanned → a =
                { s.lamps.scan[c] with
                  settle := if s.lamps.dimChanged then max 3 (s.lamps.scan[c].settle - 1)
                            else s.lamps.scan[c].settle - 1
                  reading := none
                  changed := false }) →
              (¬ scanned → a =
                { s.lamps.scan[c] with
                  settle := s.lamps.scan[c].settle - 1
                  latched := .none
                  reading := none
                  changed := false }) →
              u.lamps.scan[c] =
                if letterOf c = .R then a.latch (s.seenLevel c) s.lamps.lamps[c].type else a) ∧
          u.faults = (s.actAll (allCores.flatMap (fun c => (works c).actions) ++
            (if s.lamps.toldMode = .supplyOff then
              allGroups.map fun g => .clear .conflictObserved (.group g) else []) ++
            allGroups.map fun g =>
              if (works (coreOf g .R)).result.cls = .senseFault ∨ (works (coreOf g .A)).result.cls = .senseFault ∨
                 (works (coreOf g .G)).result.cls = .senseFault ∨ (works (coreOf g .X)).result.cls = .senseFault
              then .raise .senseFault (.group g) else .clear .senseFault (.group g))).faults ∧
          u.outbox = s.outbox ++
            (allCores.filter fun c => (works c).redChange).map (fun c => .redLossChange (groupOf c)) ++
            (allCores.filter fun c => (works c).conflict).map (fun c => .conflictObservedDeclaration (groupOf c)) ++
            [.lampFrameResult (Vector.ofFn fun c => (works c).result)] ++
            (allCores.filter fun c => (works c).declared).map (fun c =>
              if letterOf c = .R then .redLostDeclaration c else .lampOutDeclaration c) ∧
          u.lamps.snapshot.sequence = s.lamps.frameSequence + 1 ∧ u.lamps.snapshot.clock = s.engine.clock ∧
          u.lamps.snapshot.mode = s.engine.mode ∧ u.lamps.snapshot.scanMode = s.lamps.scanMode ∧
          (∀ g : GroupId, u.lamps.snapshot.groups[g].state = s.engine.groups[g].state ∧
            u.lamps.snapshot.groups[g].redLost = u.lamps.lamps[coreOf g .R].redLossDeclared ∧
            (u.lamps.snapshot.groups[g].unexpected = true ↔
              ∃ l : Letter, s.lamps.filter ≤ u.lamps.lamps[coreOf g l].unexpectedRun) ∧
            u.lamps.snapshot.groups[g].inhibited = s.engine.groups[g].inhibited ∧
            u.lamps.snapshot.groups[g].withheld = s.engine.groups[g].withheld ∧
            ∀ l : Letter, (u.lamps.snapshot.groups[g].proven[(letterIndex l).val]'(letterIndex l).isLt) =
              u.lamps.lamps[coreOf g l].proven) ∧
          (∀ c : CoreId, u.lamps.lamps[c].lastClass = x.lamps.classify c) ∧
          u.lamps = { s.lamps with
            lastZeroCross := s.nowMs
            slotIndex := 1
            rowSelect := .R
            frameSequence := s.lamps.frameSequence + 1
            dimChanged := false
            scan := u.lamps.scan
            lamps := u.lamps.lamps
            snapshot := u.lamps.snapshot } ∧
          u = { s with lamps := u.lamps, faults := u.faults, outbox := u.outbox }))) ∧
  (∀ (a : ScanAspect) (lit : Bool) (type : LampType) (level : Latch), level = (if lit then .lit else .dark) →
    a.latch lit type =
      { a with
        settle := if a.moved = true ∨ a.latched ≠ level then (if type = .filament then 2 else 1) else a.settle
        moved := false
        latched := level }) ∧
  (∀ (s : State) (c : CoreId),
    ((∀ b, Instr.aspectLevelChange c b ∉ s.outbox) → s.seenLevel c = s.engine.aspects[c].lit) ∧
    (∀ (older newer : List Instr) (b : Bool), s.outbox = older ++ .aspectLevelChange c b :: newer →
      (∀ b', Instr.aspectLevelChange c b' ∉ older) → s.seenLevel c = !b))

/-- R105, R112 to R120, R122 to R125: how an aspect's reading is judged in a frame and what it does. The class is the first
that holds of UNSCANNED, SENSE_FAULT, STALE, SATURATED, LIT, DARK_OK and UNEXPECTED. Of a LIT reading the estimate is the
nearest whole number of lamps; one above the fitted count, or a residual above the tolerance, is doubtful and leaves the
counts alone; any other ends the doubtful run and moves the candidate, the proven count follows once the candidate has stood
for F frames, and the active reference learns from a full count. The other classes, the overload runs, the frames of a
LEARN, and the faults, declarations and last fields that follow are as their rules give them. Of these the model chose which
dim line a frame goes by before a DIM_CHANGE is taken (log 26), that sense-open comes before the dim changed flag (log 27),
by which mode R125 judges (log 10), the order of one aspect's raises and clears (log 18) and the raw figure 0 that stands in
the frame result for an UNSCANNED aspect without a reading (log 22). -/
def Obligations.ReadingsJudged : Prop :=
  (∀ (u : LampUnit) (c : CoreId), (u.scanMode = .threeRow ∧ letterOf c = .X) ∨ u.lamps[c].fitted = 0 →
    u.classify c = .unscanned) ∧
  (∀ (u : LampUnit) (c : CoreId) (r : Reading), u.scan[c].reading = some r →
    u.classify c =
      if (u.scanMode = .threeRow ∧ letterOf c = .X) ∨ u.lamps[c].fitted = 0 then .unscanned
      else if r.senseOpen = true then .senseFault
      else if 0 < u.scan[c].settle ∨ u.scan[c].changed = true ∨ u.dimChanged = true then .stale
      else if u.scan[c].latched = .lit then (if r.raw = 4095 then .saturated else .lit)
      else if r.raw ≤ u.lamps[c].leak + u.threshold then .darkOk
      else .unexpected) ∧
  (∀ (l : Lamp) (dimOn : Bool) (f raw i net k : Nat), i = (if dimOn then l.dim else l.bright) → 0 < i →
    net = raw - l.leak → k = estimate net i →
    (2 * k * i ≤ 32 * net + i ∧ 32 * net + i < 2 * (k + 1) * i) ∧
    (l.fitted < k → (l.takeLit dimOn f raw).evidence = true ∧ (l.takeLit dimOn f raw).doubtful = true ∧
      (l.takeLit dimOn f raw).certain = false ∧
      (l.takeLit dimOn f raw).lamp = { l with doubtfulRun := min 15 (l.doubtfulRun + 1) }) ∧
    (k ≤ l.fitted → i * l.tolerance < 16 * ((16 * net : Int) - k * i).natAbs →
      (l.takeLit dimOn f raw).evidence = false ∧ (l.takeLit dimOn f raw).doubtful = true ∧
      (l.takeLit dimOn f raw).certain = false ∧
      (l.takeLit dimOn f raw).lamp = { l with doubtfulRun := min 15 (l.doubtfulRun + 1) }) ∧
    (k ≤ l.fitted → 16 * ((16 * net : Int) - k * i).natAbs ≤ i * l.tolerance → ∀ run proven learnt least : Nat,
      run = (if k = l.candidate then min 15 (l.candidateRun + 1) else 1) →
      proven = (if f ≤ run then k else l.proven) →
      least = (if l.type = .filament then 16 else 320) →
      (learnt : Int) = (if k = l.fitted ∧ proven = l.fitted ∧ l.frozen = false ∧ l.learn = .none then
        max (least : Int) (min 65520 ((i : Int) + ((16 * net / l.fitted : Nat) - (i : Int)).tdiv 16)) else (i : Int)) →
      (l.takeLit dimOn f raw).evidence = false ∧ (l.takeLit dimOn f raw).doubtful = false ∧
      (l.takeLit dimOn f raw).certain = true ∧
      (l.takeLit dimOn f raw).lamp =
        { l with
          doubtfulRun := 0
          candidate := k
          candidateRun := run
          proven := proven
          bright := if dimOn then l.bright else learnt
          dim := if dimOn then learnt else l.dim })) ∧
  (∀ (l m : Lamp) (letter : Letter) (dimOn : Bool) (f raw run : Nat) (cls : ReadingClass) (p q : LampPass),
    p = l.takeClass letter dimOn f cls raw →
    m = { l with unexpectedRun :=
            if cls = .unexpected then min 15 (l.unexpectedRun + 1)
            else if cls = .darkOk ∨ cls = .lit ∨ cls = .saturated then 0 else l.unexpectedRun } →
    run = (if l.candidate = 0 then min 15 (l.candidateRun + 1) else 1) →
    q = m.takeLit dimOn f raw →
    (cls = .lit → p =
      { q with
        lamp := { q.lamp with
          overloadRun := if q.evidence then min 15 (l.overloadRun + 1) else 0
          quietRun := if q.evidence then 0 else min 15 (l.quietRun + 1) } }) ∧
    (cls = .saturated → p =
      { lamp := { m with overloadRun := min 15 (l.overloadRun + 1), quietRun := 0 }, evidence := true, doubtful := false,
        certain := false }) ∧
    (cls ≠ .lit → cls ≠ .saturated → p =
      { lamp := if cls = .senseFault ∧ letter = .R then
            { m with candidate := 0, candidateRun := run, proven := if f ≤ run then 0 else l.proven }
          else m,
        evidence := false, doubtful := false, certain := false })) ∧
  (∀ (l : Lamp) (letter : Letter) (dimOn : Bool) (f raw learnt : Nat) (cls : ReadingClass) (p q : LampPass),
    p = l.work letter dimOn f cls raw → q = l.takeClass letter dimOn f cls raw →
    learnt = max (if l.type = .filament then 16 else 320) (min 65520 (16 * (raw - l.leak) / l.fitted)) →
    (l.learn = .litPending → cls = .lit → p =
      { lamp := { l with
          bright := if dimOn then l.bright else learnt
          dim := if dimOn then learnt else l.dim
          proven := l.fitted
          candidate := l.fitted
          candidateRun := 0
          doubtfulRun := 0
          learn := .none },
        evidence := false, doubtful := false, certain := false }) ∧
    (l.learn = .darkPending → cls = .darkOk ∨ cls = .unexpected →
      p = { q with lamp := { q.lamp with leak := min 200 raw, learn := .litPending } }) ∧
    (l.learn ≠ .none → cls = .unscanned →
      p = { lamp := { l with learn := .none }, evidence := false, doubtful := false, certain := false }) ∧
    (l.learn = .none ∨ l.learn = .darkPending ∧ cls ∉ [ReadingClass.darkOk, .unexpected, .unscanned] ∨
      l.learn = .litPending ∧ cls ∉ [ReadingClass.lit, .unscanned] → p = q)) ∧
  (∀ (s : State) (c : CoreId) (l : Lamp) (cls : ReadingClass) (r : Reading) (p : LampPass) (f net : Nat)
    (lost seen : Bool), l = s.lamps.lamps[c] → cls = s.lamps.classify c →
    s.lamps.scan[c].reading = some r ∨ s.lamps.scan[c].reading = none ∧ cls = .unscanned ∧ r = ⟨0, false⟩ →
    f = s.lamps.filter → p = l.work (letterOf c) s.seenDim f cls r.raw →
    net = (if cls = .lit ∨ cls = .darkOk then r.raw - l.leak else 0) →
    lost = (letterOf c == .R && decide (0 < p.lamp.fitted) && p.lamp.proven == 0) →
    (seen = true ↔ letterOf c = .G ∧ cls = .unexpected ∧ f ≤ p.lamp.unexpectedRun ∧
      ((s.lamps.toldMode = .run ∨ s.lamps.toldMode = .held) ∧ (∃ i : GroupId, s.conflict i (groupOf c) = true ∧
        (s.engine.groups[i].state = .green ∨ s.engine.groups[i].state = .clearance)) ∨ s.lamps.toldMode = .flash)) →
    (s.aspectWork c).lamp =
      { p.lamp with
        redLossDeclared := lost
        lastClass := cls
        lastRaw := if cls = .unscanned then p.lamp.lastRaw else r.raw
        lastSenseOpen := if cls = .unscanned then p.lamp.lastSenseOpen else r.senseOpen
        lastNet := if cls = .unscanned then p.lamp.lastNet else net } ∧
    (s.aspectWork c).result = { cls := cls, raw := r.raw, net := net, proven := p.lamp.proven } ∧
    (s.aspectWork c).conflict = seen ∧
    ((s.aspectWork c).redChange = true ↔ letterOf c = .R ∧ lost ≠ l.redLossDeclared) ∧
    ((s.aspectWork c).declared = true ↔
      if letterOf c = .R then lost = true ∧ l.redLossDeclared = false
      else cls ≠ .unscanned ∧ 0 < l.proven ∧ p.lamp.proven = 0) ∧
    (s.aspectWork c).actions =
      (if cls = .unscanned then
        [.clear .lampPartial (.aspect c), .clear .lampOut (.aspect c), .clear .lampUncertain (.aspect c),
         .clear .lampOverload (.aspect c), .clear .unexpectedCurrent (.aspect c)]
       else
        (if p.doubtful = true ∧ 8 ≤ p.lamp.doubtfulRun then [.raise .lampUncertain (.aspect c)] else []) ++
        (if f ≤ p.lamp.overloadRun then [.raise .lampOverload (.aspect c)] else []) ++
        (if f ≤ p.lamp.quietRun then [.clear .lampOverload (.aspect c)] else []) ++
        (if p.certain then [.clear .lampUncertain (.aspect c)] else []) ++
        [if 1 ≤ p.lamp.proven ∧ p.lamp.proven < p.lamp.fitted then .raise .lampPartial (.aspect c)
         else .clear .lampPartial (.aspect c)] ++
        (if letterOf c = .R then []
         else [if p.lamp.proven = 0 then .raise .lampOut (.aspect c) else .clear .lampOut (.aspect c)]) ++
        (if cls = .unexpected ∧ f ≤ p.lamp.unexpectedRun then [.raise .unexpectedCurrent (.aspect c)] else []) ++
        (if cls = .darkOk then [.clear .unexpectedCurrent (.aspect c)] else [])) ++
      (if lost then [.raise .redLost (.group (groupOf c))]
       else if letterOf c = .R ∧ p.lamp.redLossDeclared = true then [.clear .redLost (.group (groupOf c))] else []) ++
      (if seen then [.raise .conflictObserved (.group (groupOf c))] else [])) ∧
  (∀ s : State,
    ((∀ b, Instr.dimChange b ∉ s.outbox) → s.seenDim = s.engine.dimOn) ∧
    (∀ (older newer : List Instr) (b : Bool), s.outbox = older ++ .dimChange b :: newer →
      (∀ b', Instr.dimChange b' ∉ older) → s.seenDim = !b))

/-- R20, R99, R100, R104: what the Lamp Proving Unit is told, and the suspension of scanning, whose 50 ms
StepTakesFrontCommand says. Messages to be taken wait in the outbox (log 2), two blocks do nothing at a mode notice (log
10), SCAN_SUSPEND in SUSPENDED changes nothing (log 9), and that row R is then selected is the model's choice (log 35). -/
def Obligations.LampNoticesTaken : Prop :=
  ∀ (s : State) (c : CoreId) (b : Bool) (blk : NoticeBlock) (m : Mode), s.loading = false →
    exec (.aspectLevelChange c b) s = .next
      { s.taking (.aspectLevelChange c b) with
        lamps.scan := put s.lamps.scan c { s.lamps.scan[c] with moved := true } } ∧
    exec (.dimChange b) s = .next { s.taking (.dimChange b) with lamps.dimChanged := true } ∧
    exec (.junctionModeNotice .lampUnit m) s =
      .next { s.taking (.junctionModeNotice .lampUnit m) with lamps.toldMode := m } ∧
    (blk ≠ .lampUnit → exec (.junctionModeNotice blk m) s = .next (s.taking (.junctionModeNotice blk m))) ∧
    (s.lamps.scanState = .suspended → exec .scanSuspend s = .next s) ∧
    (s.lamps.scanState = .scanning → ∃ u : LampUnit, exec .scanSuspend s = .next { s with lamps := u } ∧
      u =
        { s.lamps with
          scanState := .suspended
          slotIndex := 0
          rowSelect := .R
          scan := u.scan
          lamps := u.lamps } ∧
      ∀ d : CoreId,
        u.scan[d] = { s.lamps.scan[d] with moved := true, reading := none, changed := false } ∧
        u.lamps[d] =
          { s.lamps.lamps[d] with
            lastClass := if (s.lamps.scanMode = .threeRow ∧ letterOf d = .X) ∨ s.lamps.lamps[d].fitted = 0 then
                s.lamps.lamps[d].lastClass
              else .stale })

/-! ## Cable testing -/

/-- R130, R137, R138: a selection. With the unit enabled and no test in flight, the oldest entry whose core is eligible goes
under test; with none, and a cyclic test due, the first eligible core of the test set after the pointer; else no test
starts. Otherwise a selection does nothing but settle the unit state. -/
def Obligations.SelectionTaken : Prop :=
  ∀ s : State,
    (s.cable.enabled = false ∨ s.cable.flight ≠ none →
      s.select = s.onCable fun u => { u with unitState := u.stateOf s.fitted }) ∧
    (s.cable.enabled = true → s.cable.flight = none →
      (∀ (older newer : List QueueEntry) (e : QueueEntry), s.cable.queue = older ++ e :: newer →
        (∀ x ∈ older, s.eligible x.core = false) → s.eligible e.core = true →
        s.select =
          { s with
            cable.unitState := if s.cable.stopWaiting then .stopping else .testing
            cable.flight := some (Flight.mk e.core .queue .positive s.nowMs s.nowMs none)
            cable.intervalPassed := false
            cable.queue := s.cable.queue.map fun x =>
              { x with
                seenEligible := x.seenEligible || s.eligible x.core
                underTest := x.underTest || x.core == e.core } }) ∧
      ((∀ x ∈ s.cable.queue, s.eligible x.core = false) → s.cable.cyclicRunning = true →
        s.cable.intervalPassed = true → s.cable.pointer ≤ 64 → ∀ c : CoreId, s.cable.testSet[c] = true →
        s.eligible c = true →
        (∀ d : CoreId, s.cable.testSet[d] = true → s.eligible d = true →
          (c.val + 64 - s.cable.pointer) % 64 ≤ (d.val + 64 - s.cable.pointer) % 64) →
        s.select =
          { s with
            cable.unitState := if s.cable.stopWaiting then .stopping else .testing
            cable.flight := some (Flight.mk c .cyclic .positive s.nowMs s.nowMs none)
            cable.intervalPassed := false }) ∧
      ((∀ x ∈ s.cable.queue, s.eligible x.core = false) →
        s.cable.cyclicRunning = false ∨ s.cable.intervalPassed = false ∨
          (∀ c : CoreId, s.cable.testSet[c] = true → s.eligible c = false) →
        s.select =
          { s with
            cable.unitState :=
              if s.cable.queue ≠ [] ∨ (s.cable.cyclicRunning = true ∧ s.cable.intervalPassed = true ∧
                  ∃ c : CoreId, s.cable.testSet[c] = true ∧ 0 < s.fitted c) then .waiting
              else .idle }))

/-- R131 to R133: TEST_ENABLE, TEST_DISABLE, TEST_SET, TEST_INTERVAL, TEST_START_CYCLIC and TEST_STOP, with their
refusals. Each settles the unit state or makes the selection its rule names. That a TEST_DISABLE
stops the interval timer in IDLE and WAITING too, where R131 does not name it, and that the timer stands still after a
TEST_INTERVAL taken in a disabled unit, are the model's choice (log 15). -/
def Obligations.TestUnitCommanded : Prop :=
  ∀ (s : State) (cores : CoreSet) (n : Nat), s.loading = false →
    (s.saving = true →
      exec .testEnable s = .next (s.refusedWith .maintenance 34 .busy) ∧
      exec .testDisable s = .next (s.refusedWith .maintenance 35 .busy) ∧
      exec (.testSet cores) s = .next (s.refusedWith .maintenance 36 .busy) ∧
      exec (.testInterval n) s = .next (s.refusedWith .maintenance 37 .busy) ∧
      exec .testStop s = .next (s.refusedWith .maintenance 39 .busy)) ∧
    (s.saving = false →
      (s.cable.enabled = true → exec .testEnable s = .next (State.ok .maintenance 34 [] s)) ∧
      (s.cable.enabled = false → exec .testEnable s = .next (State.ok .maintenance 34 [] (State.select
        { s with
          cable.enabled := true
          cable.lastTestEnd := s.nowMs
          cable.intervalPassed := false
          cable.intervalTimer := true }))) ∧
      (s.cable.enabled = false → exec .testDisable s = .next (State.ok .maintenance 35 [] s)) ∧
      (s.cable.enabled = true → exec .testDisable s = .next (State.ok .maintenance 35 []
        { s with
          cable.unitState := .disabled
          cable.enabled := false
          cable.flight := none
          cable.queue := []
          cable.cyclicRunning := false
          cable.stopWaiting := false
          cable.intervalTimer := false
          cable.records := match s.cable.flight with
            | some f => put s.cable.records f.core
                { s.cable.records[f.core] with
                  cls := .interrupted
                  interrupted := min 255 (s.cable.records[f.core].interrupted + 1)
                  lastTest := s.nowSec }
            | none => s.cable.records })) ∧
      (∀ kept : CoreSet, (∀ c : CoreId, kept[c] = (cores[c] && decide (0 < s.fitted c))) →
        exec (.testSet cores) s =
          .next (State.ok .maintenance 36 (coreSetBytes kept) (State.select { s with cable.testSet := kept }))) ∧
      (60 < n → exec (.testInterval n) s = .next (s.refusedWith .maintenance 37 .range)) ∧
      (n ≤ 60 → s.cable.enabled = true → exec (.testInterval n) s = .next (State.ok .maintenance 37 [] (State.select
        { s with
          cable.interval := max 1 n
          cable.intervalPassed := decide (1000 * max 1 n ≤ elapsed s.nowMs s.cable.lastTestEnd)
          cable.intervalTimer := !decide (1000 * max 1 n ≤ elapsed s.nowMs s.cable.lastTestEnd) }))) ∧
      (n ≤ 60 → s.cable.enabled = false → exec (.testInterval n) s = .next (State.ok .maintenance 37 [] (State.select
        { s with
          cable.interval := max 1 n
          cable.intervalPassed := decide (1000 * max 1 n ≤ elapsed s.nowMs s.cable.lastTestEnd)
          cable.intervalTimer := false }))) ∧
      (s.cable.enabled = false ∨ s.cable.cyclicRunning = false →
        exec .testStop s = .next (State.ok .maintenance 39 [] s)) ∧
      (s.cable.enabled = true → s.cable.cyclicRunning = true → s.cable.flight = none →
        exec .testStop s = .next (State.ok .maintenance 39 [] (State.select { s with cable.cyclicRunning := false }))) ∧
      (s.cable.enabled = true → s.cable.cyclicRunning = true → s.cable.flight ≠ none →
        exec .testStop s = .next (State.ok .maintenance 39 []
          { s with cable.stopWaiting := true, cable.unitState := .stopping }))) ∧
    (s.cable.enabled = false → exec .testStartCyclic s = .next (s.refusedWith .maintenance 38 .wrongMode)) ∧
    (s.cable.enabled = true →
      (s.cable.flight ≠ none → s.cable.stopWaiting = true → exec .testStartCyclic s =
        .next (State.ok .maintenance 38 [] { s with cable.stopWaiting := false, cable.unitState := .testing })) ∧
      (s.cable.flight = none ∨ s.cable.stopWaiting = false →
        (s.cable.cyclicRunning = true ∨ s.saving = true →
          exec .testStartCyclic s = .next (s.refusedWith .maintenance 38 .busy)) ∧
        (s.cable.cyclicRunning = false → s.saving = false → exec .testStartCyclic s =
          .next (State.ok .maintenance 38 [] (State.select { s with cable.cyclicRunning := true })))))

/-- R134 to R136: TEST_CORE and the two declarations. A core already queued is answered OK without a second entry; the
request is refused in a disabled unit, for a core that is not fitted and with 8 entries queued, where a declaration is
dropped; otherwise an entry joins the tail of the queue, its wait starting now, and a selection is made. Messages to
be taken wait in the outbox (log 2). -/
def Obligations.QueueFilled : Prop :=
  ∀ (s : State) (c : CoreId) (n : Nat), s.loading = false →
    (s.cable.enabled = false → exec (.testCore n) s = .next (s.refusedWith .maintenance 40 .wrongMode)) ∧
    (s.cable.enabled = true → n = 0 ∨ 64 < n ∨ n = c.val + 1 ∧ s.fitted c = 0 →
      exec (.testCore n) s = .next (s.refusedWith .maintenance 40 .range)) ∧
    (s.cable.enabled = true → n = c.val + 1 → 0 < s.fitted c → (∃ e ∈ s.cable.queue, e.core = c) →
      exec (.testCore n) s = .next (State.ok .maintenance 40 [] s)) ∧
    (s.cable.enabled = true → n = c.val + 1 → 0 < s.fitted c → (∀ e ∈ s.cable.queue, e.core ≠ c) →
      8 ≤ s.cable.queue.length → exec (.testCore n) s = .next (s.refusedWith .maintenance 40 .queueFull)) ∧
    (s.cable.enabled = true → n = c.val + 1 → 0 < s.fitted c → (∀ e ∈ s.cable.queue, e.core ≠ c) →
      s.cable.queue.length < 8 →
      exec (.testCore n) s = .next (State.ok .maintenance 40 [] (State.select
        { s with cable.queue := s.cable.queue ++ [QueueEntry.mk c .request s.nowMs (s.eligible c) false] })) ∧
      exec (.lampOutDeclaration c) s = .next (State.select
        { s.taking (.lampOutDeclaration c) with
          cable.queue := s.cable.queue ++ [QueueEntry.mk c .lampOut s.nowMs (s.eligible c) false] }) ∧
      exec (.redLostDeclaration c) s = .next (State.select
        { s.taking (.redLostDeclaration c) with
          cable.queue := s.cable.queue ++ [QueueEntry.mk c .redLost s.nowMs (s.eligible c) false] })) ∧
    (s.cable.enabled = false ∨ s.fitted c = 0 ∨ (∃ e ∈ s.cable.queue, e.core = c) ∨ 8 ≤ s.cable.queue.length →
      exec (.lampOutDeclaration c) s = .next (s.taking (.lampOutDeclaration c)) ∧
      exec (.redLostDeclaration c) s = .next (s.taking (.redLostDeclaration c)))

/-- R138 to R141: the two phases of a test and its end, each after the 200 ms of its phase timer, whose expiry in a step
with nothing waiting StepTakesFrontCommand says. The first reads L+ and reverses the polarity; the second reads L−,
writes the cable record with its class, leakage and offset, raises or clears the core's faults, takes the queue entry
away or moves the pointer, restarts the interval, and a selection follows. With no test in flight a notice changes
nothing, nor does a phase's end whose 200 ms have not run (log 9). An energise notice for the core in test aborts it:
the record is INTERRUPTED, a queue entry under test returns to the head of the queue with its wait starting now and its
seen eligible flag cleared, a waiting stop clears cyclic running, the interval restarts, the pointer stays, and a
selection is made among the other cores. That the noticed core is left out of it is the model's choice (log 24); a
current beyond the rails is clamped (log 16), and the result sent waits in the outbox (log 2). -/
def Obligations.TestsRun : Prop :=
  (∀ (s : State) (f : Flight) (x pos neg : Int), s.loading = false → s.cable.flight = some f →
    neg = max (-2048) (min 2047 x) →
    (elapsed s.nowMs f.phaseStart < 200 →
      exec (.positivePhaseEnd x) s = .next s ∧ exec (.testCompletion x) s = .next s) ∧
    (f.phase = .positive → 200 ≤ elapsed s.nowMs f.phaseStart → exec (.positivePhaseEnd x) s = .next
      { s with cable.flight := some { f with phase := .negative, phaseStart := s.nowMs, positive := some neg } }) ∧
    (f.phase = .negative → 200 ≤ elapsed s.nowMs f.phaseStart → f.positive = some pos → ∀ cls : CableClass,
      cls = (if pos = -2048 ∨ pos = 2047 ∨ neg = -2048 ∨ neg = 2047 then .saturated
             else if pos ≤ 0 ∨ 0 ≤ neg then .asymmetric else .valid) →
      exec (.testCompletion x) s = .next (State.select
        { s with
          cable.records := put s.cable.records f.core
            { s.cable.records[f.core] with
              cls := cls
              positive := pos
              negative := neg
              leakage := (pos - neg).tdiv 2
              offset := (pos + neg).tdiv 2
              worst := if cls = .valid then max s.cable.records[f.core].worst ((pos - neg).tdiv 2)
                       else s.cable.records[f.core].worst
              done := min 65535 (s.cable.records[f.core].done + 1)
              lastTest := s.nowSec }
          cable.queue := if f.source = .queue then s.cable.queue.filter fun e => e.core != f.core else s.cable.queue
          cable.pointer := if f.source = .queue then s.cable.pointer else f.core.val + 1
          cable.flight := none
          cable.cyclicRunning := s.cable.cyclicRunning && !s.cable.stopWaiting
          cable.stopWaiting := false
          cable.lastTestEnd := s.nowMs
          cable.intervalPassed := false
          cable.intervalTimer := true
          faults :=
            if cls = .asymmetric then (s.raise .cableAsymmetric (.core f.core)).faults
            else if cls = .valid then
              ((s.clear .cableAsymmetric (.core f.core)).clear .cableNoWindow (.core f.core)).faults
            else s.faults
          outbox := s.outbox ++ (if cls = .saturated then [] else
            [.cableResult f.core cls ((pos - neg).tdiv 2) ((pos + neg).tdiv 2)]) })) ∧
    (∃ u, exec (.energiseNotice f.core) s = .next u ∧
      u.cable.records = put s.cable.records f.core
        { s.cable.records[f.core] with
          cls := .interrupted
          interrupted := min 255 (s.cable.records[f.core].interrupted + 1)
          lastTest := s.nowSec } ∧
      (∀ f', u.cable.flight = some f' → f'.core ≠ f.core) ∧
      u.cable.lastTestEnd = s.nowMs ∧ u.cable.intervalTimer = true ∧ u.cable.intervalPassed = false ∧
      u = { s with cable := u.cable }) ∧
    (∀ queue : List QueueEntry,
      f.source = .cyclic ∧ queue = s.cable.queue ∨
      f.source = .queue ∧ (∃ (older newer : List QueueEntry) (e : QueueEntry),
        s.cable.queue = older ++ e :: newer ∧ e.core = f.core ∧ (∀ x ∈ older ++ newer, x.core ≠ f.core) ∧
        queue = { e with underTest := false, waitStart := s.nowMs, seenEligible := false } :: (older ++ newer)) →
      exec (.energiseNotice f.core) s = .next (State.selectWith (fun c => s.eligible c && c != f.core)
        { s with
          cable.records := put s.cable.records f.core
            { s.cable.records[f.core] with
              cls := .interrupted
              interrupted := min 255 (s.cable.records[f.core].interrupted + 1)
              lastTest := s.nowSec }
          cable.queue := queue
          cable.flight := none
          cable.cyclicRunning := s.cable.cyclicRunning && !s.cable.stopWaiting
          cable.stopWaiting := false
          cable.lastTestEnd := s.nowMs
          cable.intervalPassed := false
          cable.intervalTimer := true })) ∧
    (∀ c : CoreId, c ≠ f.core → exec (.energiseNotice c) s = .next s)) ∧
  (∀ (s : State) (c : CoreId) (x : Int), s.loading = false →
    (s.cable.flight = none → exec (.energiseNotice c) s = .next s) ∧
    ((∀ f, s.cable.flight = some f → f.phase = .negative) → exec (.positivePhaseEnd x) s = .next s) ∧
    ((∀ f, s.cable.flight = some f → f.phase = .positive) → exec (.testCompletion x) s = .next s))

/-- R137, R142, R144: the interval's expiry, a queue entry's 120 s wait, a change of an aspect's command, and
CLEAR_CABLE. Expiries are taken only while their timer runs (log 9), and a change of command to be
taken waits in the outbox (log 2). -/
def Obligations.CableTimersTaken : Prop :=
  ∀ (s : State) (c : CoreId) (n : Nat), s.loading = false →
    (s.cable.intervalTimer = true → exec .intervalExpiry s = .next (State.select
      { s with cable.intervalPassed := true, cable.intervalTimer := false })) ∧
    (∀ e ∈ s.cable.queue, e.core = c → (s.cable.queue.map fun x => x.core).Nodup → e.underTest = false →
      (e.seenEligible = true → exec (.waitLimitExpiry c) s = .next
        { s with cable.queue := s.cable.queue.map fun x =>
          if x.core = c then { x with waitStart := s.nowMs, seenEligible := s.eligible c } else x }) ∧
      (e.seenEligible = false → exec (.waitLimitExpiry c) s = .next (State.select (State.raise .cableNoWindow (.core c)
        { s with
          cable.queue := s.cable.queue.filter fun x => x.core != c
          cable.records := put s.cable.records c { s.cable.records[c] with cls := .noWindow } })))) ∧
    exec (.aspectCommandChange c .off) s = .next (State.select
      { s.taking (.aspectCommandChange c .off) with
        cable.queue := s.cable.queue.map fun x => if x.core = c then { x with seenEligible := true } else x }) ∧
    (∀ k : AspectCommand, k ≠ .off →
      exec (.aspectCommandChange c k) s = .next (State.select (s.taking (.aspectCommandChange c k)))) ∧
    (n = 0 ∨ 64 < n → exec (.clearCable n) s = .next (s.refusedWith .maintenance 41 .range)) ∧
    exec (.clearCable (c.val + 1)) s = .next (State.ok .maintenance 41 []
      { s with
        cable.records := put s.cable.records c CableRecord.fresh
        faults := ((s.clear .cableAsymmetric (.core c)).clear .cableNoWindow (.core c)).faults })

/-! ## Alarm qualifiers -/

/-- R146, R152 to R154: WRITE_QUALIFIER, ARM and DISARM, with their refusals. A limit is never refused. -/
def Obligations.QualifiersCommanded : Prop :=
  ∀ (s : State) (q : QualId) (n : Nat) (source : QualifierSource) (c : CoreId) (la lb : Int) (ca cb : Condition)
    (rule : CombineRule) (count : Nat) (action : QualifierAction) (args : QualifierArgs), s.loading = false →
    args =
      { source := codeOf qualifierSources source, subject := c.val + 1,
        a := { limit := la, condition := codeOf conditions ca },
        b := { limit := lb, condition := codeOf conditions cb },
        combine := codeOf combineRules rule, count := count, action := codeOf qualifierActions action } →
    (∀ any : QualifierArgs,
      (s.saving = true → exec (.writeQualifier n any) s = .next (s.refusedWith .maintenance 44 .busy)) ∧
      (s.saving = false → n = 0 ∨ 4 < n ∨ 4 ≤ any.source ∨ any.subject = 0 ∨ 64 < any.subject ∨ 4 ≤ any.a.condition ∨
          4 ≤ any.b.condition ∨ 4 ≤ any.combine ∨ 3 ≤ any.action ∨ any.count = 0 ∨ 255 < any.count →
        exec (.writeQualifier n any) s = .next (s.refusedWith .maintenance 44 .range))) ∧
    (s.saving = false →
      (1 ≤ count → count ≤ 255 → s.quals[q].state = .armed →
        exec (.writeQualifier (q.val + 1) args) s = .next (s.refusedWith .maintenance 44 .armed)) ∧
      (1 ≤ count → count ≤ 255 → s.quals[q].state ≠ .armed →
        exec (.writeQualifier (q.val + 1) args) s = .next (State.ok .maintenance 44 []
          { s with
            quals := put s.quals q
              { s.quals[q] with
                source := source
                subject := c
                a := { limit := la, condition := ca }
                b := { limit := lb, condition := cb }
                combine := rule
                count := count
                action := action } }))) ∧
    exec (.arm (q.val + 1)) s = .next (State.ok .maintenance 45 []
      { s with
        quals := put s.quals q
          { s.quals[q] with remaining := s.quals[q].count - 1, aSeen := false, bSeen := false, state := .armed }
        faults := (s.clear .qualifierFired (.qualifier q)).faults }) ∧
    exec (.disarm (q.val + 1)) s = .next (State.ok .maintenance 46 []
      { s with quals := put s.quals q { s.quals[q] with state := .idle } }) ∧
    (n = 0 ∨ 4 < n → exec (.arm n) s = .next (s.refusedWith .maintenance 45 .range) ∧
      exec (.disarm n) s = .next (s.refusedWith .maintenance 46 .range))

/-- R147 to R151: a frame result and a cable result evaluate qualifiers 1 to 4. One that is not ARMED, or to which the
result gives no value, is left alone. One evaluated takes its comparisons through its combine rule; an event counts
down, and fires when the count has run out. In the order of the qualifiers, each one that fires raises QUALIFIER_FIRED and
sends the engine its HOLD or FLASH action; nothing else is raised or sent. Messages sent wait in the outbox (log 2). -/
def Obligations.QualifiersEvaluated : Prop :=
  (∀ (k : Comparator) (x : Int), k.holds x = true ↔
    k.condition = .above ∧ k.limit < x ∨ k.condition = .below ∧ x < k.limit ∨ k.condition = .equal ∧ x = k.limit ∨
    k.condition = .notEqual ∧ x ≠ k.limit) ∧
  (∀ (s : State) (i : Instr) (value : Qualifier → Option Int), s.loading = false →
    ((∃ results, i = .lampFrameResult results ∧ value = fun k =>
        if k.source = .lampNet ∧ (results[k.subject].cls = .lit ∨ results[k.subject].cls = .darkOk) then
          some (results[k.subject].net : Int)
        else if k.source = .lampProven ∧ results[k.subject].cls = .lit then some (results[k.subject].proven : Int)
        else none) ∨
     (∃ c cls leakage offset, i = .cableResult c cls leakage offset ∧ value = fun k =>
        if k.subject ≠ c ∨ cls ≠ .valid ∧ cls ≠ .asymmetric then none
        else if k.source = .cableLeakage then some leakage
        else if k.source = .cableOffset then some offset else none)) →
    ∃ u, exec i s = .next u ∧
      (∀ q : QualId,
        (s.quals[q].state ≠ .armed ∨ value s.quals[q] = none → u.quals[q] = s.quals[q]) ∧
        (∀ x : Int, ∀ a b happens : Bool, s.quals[q].state = .armed → value s.quals[q] = some x →
          a = s.quals[q].a.holds x → b = s.quals[q].b.holds x →
          happens = (match s.quals[q].combine with
            | .aAndB => a && b
            | .aOrB => a || b
            | .bAfterA => b && s.quals[q].aSeen
            | .aAfterB => a && s.quals[q].bSeen) →
          u.quals[q] =
            { s.quals[q] with
              aSeen := if s.quals[q].combine = .bAfterA then !happens && (s.quals[q].aSeen || a) else s.quals[q].aSeen
              bSeen := if s.quals[q].combine = .aAfterB then !happens && (s.quals[q].bSeen || b) else s.quals[q].bSeen
              remaining := if happens then s.quals[q].remaining - 1 else s.quals[q].remaining
              state := if happens ∧ s.quals[q].remaining = 0 then .fired else .armed } ∧
          (happens = true → s.quals[q].remaining = 0 →
            (s.faults.records.length + 4 ≤ 32 →
              ∃ r ∈ u.faults.records, r.kind = .qualifierFired ∧ r.subject = .qualifier q ∧ r.state = .active) ∧
            (s.quals[q].action = .hold → Instr.qualifierHold ∈ u.outbox) ∧
            (s.quals[q].action = .flash → Instr.qualifierFlash ∈ u.outbox)))) ∧
      (∀ fired : QualId → Bool,
        (∀ q, fired q = true ↔ s.quals[q].state = .armed ∧ u.quals[q].state = .fired) →
        u.faults = ((List.finRange 4).filter fired).foldl
          (fun table q => table.raise .qualifierFired (.qualifier q) s.nowSec) s.faults ∧
        u.outbox = s.outbox.erase i ++ ((List.finRange 4).filter fired).flatMap fun q =>
          match s.quals[q].action with
          | .report => []
          | .hold => [.qualifierHold]
          | .flash => [.qualifierFlash]) ∧
      u = { s with quals := u.quals, faults := u.faults, outbox := u.outbox })

/-! ## Faults and history -/

/-- R157 to R161: a raise, a clear, an acknowledgement and the clearing of the overflow count. A raise of a key held
keeps one record for it; an acknowledgement of an unknown kind, of a subject that does not suit its kind, or of ALL with
a subject is refused, and one of a key with no record counts nothing; a new key takes a new record, in a full table in
the place of the oldest INACTIVE record not of kind CONFLICT_OBSERVED, and where there is none the raise is counted in
the overflow. -/
def Obligations.FaultsKept : Prop :=
  ∀ (s : State) (k : FaultKind) (x : Subject) (p : Port), s.loading = false → s.faults.wf →
    (suits k x = true →
      (∀ (older newer : List FaultRecord) (r : FaultRecord), s.faults.records = older ++ r :: newer → r.kind = k →
        r.subject = x →
        exec (.faultRaise k x) s = .next
          { s with
            faults := FaultTable.make
              (older ++
                (if r.state = .active then { r with lastSeen := s.nowSec }
                 else { r with state := .active, acknowledged := false, lastSeen := s.nowSec,
                               occurrences := min 255 (r.occurrences + 1) }) :: newer) s.faults.overflow }) ∧
      ((∀ r ∈ s.faults.records, (r.kind, r.subject) ≠ (k, x)) →
        (s.faults.records.length < 32 → exec (.faultRaise k x) s = .next
          { s with
            faults := FaultTable.make
              (s.faults.records ++ [FaultRecord.mk k x .active false s.nowSec s.nowSec 1]) s.faults.overflow }) ∧
        (s.faults.records.length = 32 →
          (∀ (older newer : List FaultRecord) (r : FaultRecord), s.faults.records = older ++ r :: newer →
            (∀ o ∈ older, o.state = .active ∨ o.kind = .conflictObserved) → r.state = .inactive →
            r.kind ≠ .conflictObserved →
            exec (.faultRaise k x) s = .next
              { s with
                faults := FaultTable.make
                  (older ++ newer ++ [FaultRecord.mk k x .active false s.nowSec s.nowSec 1]) s.faults.overflow }) ∧
          ((∀ o ∈ s.faults.records, o.state = .active ∨ o.kind = .conflictObserved) →
            exec (.faultRaise k x) s = .next
              { s with faults := FaultTable.make s.faults.records (min 255 (s.faults.overflow + 1)) })))) ∧
    (∀ (older newer : List FaultRecord) (r : FaultRecord), s.faults.records = older ++ r :: newer → r.kind = k →
      r.subject = x → exec (.faultClear k x) s = .next
        { s with
          faults := FaultTable.make
            (older ++ (if r.state = .active then (if r.acknowledged then [] else [{ r with state := .inactive }])
                       else [r]) ++ newer) s.faults.overflow }) ∧
    ((∀ r ∈ s.faults.records, (r.kind, r.subject) ≠ (k, x)) → exec (.faultClear k x) s = .next s) ∧
    (p ≠ .plan →
      exec (.ackFault p 255 0) s = .next (State.ok p 48
        (u8 (s.faults.records.filter fun r => r.state == .active).length ++
         u8 (s.faults.records.filter fun r => r.state == .inactive).length)
        { s with
          faults := FaultTable.make
            ((s.faults.records.filter fun r => r.state == .active).map fun r => { r with acknowledged := true })
            s.faults.overflow }) ∧
      (∀ n m : Nat,
        n = 255 ∧ m ≠ 0 ∨ 15 ≤ n ∧ n ≠ 255 ∨ n ∈ [0, 1, 3, 4, 5, 8, 9] ∧ (m = 0 ∨ 64 < m) ∨
        n ∈ [2, 6, 7] ∧ (m = 0 ∨ 16 < m) ∨ n = 10 ∧ (m = 0 ∨ 4 < m) ∨ n ∈ [11, 12, 13, 14] ∧ m ≠ 0 →
        exec (.ackFault p n m) s = .next (s.refusedWith p 48 .range)) ∧
      (suits k x = true → (∀ r ∈ s.faults.records, (r.kind, r.subject) ≠ (k, x)) →
        exec (.ackFault p (codeOf faultKinds k) (subjectByte x)) s = .next (State.ok p 48 [0#8, 0#8] s)) ∧
      (suits k x = true → ∀ (older newer : List FaultRecord) (r : FaultRecord),
        s.faults.records = older ++ r :: newer → r.kind = k → r.subject = x →
        exec (.ackFault p (codeOf faultKinds k) (subjectByte x)) s = .next (State.ok p 48
          (if r.state = .active then [1#8, 0#8] else [0#8, 1#8])
          { s with
            faults := FaultTable.make
              (older ++ (if r.state = .active then [{ r with acknowledged := true }] else []) ++ newer)
              s.faults.overflow }))) ∧
    exec .clearOverflow s = .next (State.ok .maintenance 49 (u8 s.faults.overflow)
      { s with faults := FaultTable.make s.faults.records 0 })

/-- R164, R165: an entry takes the next sequence number at the newest end of the ring, the oldest of 16 making way, with the
fields that its kind does not have 0 or empty;
READ_HISTORY returns the entry at the port's cursor, or the oldest held with the count missed, and moves the cursor past it,
and answers EMPTY with nothing newer; SEEK_HISTORY takes the cursor to the oldest entry. -/
def Obligations.HistoryServed : Prop :=
  ∀ (s : State) (item : HistoryItem) (p : Port), s.loading = false → s.history.wf →
    (∃ e : HistoryEntry, exec (.historyEntry item) s = .next
      { s with
        history :=
          { s.history with
            ring := (if s.history.ring.length = 16 then s.history.ring.tail else s.history.ring) ++ [e]
            next := s.history.next + 1
            lastStage := match item with
              | .change tag _ _ => tag.stage
              | .mode _ _ .start => 0
              | _ => s.history.lastStage } } ∧
      (∀ blank : HistoryEntry,
        blank.sequence = s.history.next → blank.time = s.nowSec → blank.fromStage = 0 → blank.toStage = 0 →
        blank.duration = 0 → (∀ g : GroupId, blank.withheld[g] = false) → blank.substituted = false →
        blank.detail = .none →
        e = match item with
          | .change tag d w =>
            { blank with
              kind := .change
              plan := tag.plan
              fromStage := s.history.lastStage
              toStage := tag.stage
              cycleAt := tag.cycleAt
              duration := min 255 d
              withheld := w
              substituted := tag.substituted }
          | .skip pl a b cy => { blank with kind := .skip, plan := pl, fromStage := a, toStage := b, cycleAt := cy }
          | .plan pl cy => { blank with kind := .plan, plan := pl, cycleAt := cy }
          | .hold pl k cy c => { blank with kind := .hold, plan := pl, toStage := k, cycleAt := cy, detail := .cause c }
          | .mode pl cy m => { blank with kind := .mode, plan := pl, cycleAt := cy, detail := .mode m })) ∧
    (s.history.cursors.at p = s.history.next → exec (.readHistory p) s = .next (s.refusedWith p 51 .empty)) ∧
    (∀ e ∈ s.history.ring, e.sequence = s.history.cursors.at p →
      exec (.readHistory p) s = .next (State.ok p 51 (u16 0 ++ historyBytes e)
        { s with history.cursors := s.history.cursors.put p (s.history.cursors.at p + 1) })) ∧
    (∀ e rest, s.history.ring = e :: rest →
      s.history.ring.length < (s.history.next - s.history.cursors.at p).toNat →
      exec (.readHistory p) s = .next (State.ok p 51
        (u16 (e.sequence - s.history.cursors.at p).toNat ++ historyBytes e)
        { s with history.cursors := s.history.cursors.put p (e.sequence + 1) })) ∧
    exec (.seekHistory p) s = .next (State.ok p 52 (u8 s.history.ring.length)
      { s with
        history.cursors := s.history.cursors.put p
          (match s.history.ring.head? with
           | some e => e.sequence
           | none => s.history.next) })

/-! ## Contactor feedback -/

/-- R18: a feedback change that begins a disagreement starts the 500 ms timer; one that ends it stops the timer and
clears CONTACTOR; the timer's expiry, at the moment that StepTakesFrontCommand says, raises CONTACTOR. A change of the
line does the same: RESTART and an entry to FLASH close it, and an entry to SUPPLY_OFF opens it (R17). The expiry is
taken only while the timer runs (log 9), and a message taken and those sent stand in the outbox (log 2). -/
def Obligations.ContactorChecked : Prop :=
  (∀ (s t : State) (b : Bool), s.loading = false → t = { s with engine.feedbackClosed := b } →
    (s.engine.feedbackClosed = b → exec (.contactorFeedbackChange b) s = .next s) ∧
    (s.engine.feedbackClosed ≠ b → b ≠ s.engine.contactorClosed →
      exec (.contactorFeedbackChange b) s = .next { t with engine.contactorTimer := some s.nowMs }) ∧
    (s.engine.feedbackClosed ≠ b → b = s.engine.contactorClosed →
      exec (.contactorFeedbackChange b) s =
        .next (State.clear .contactor .none { t with engine.contactorTimer := none })) ∧
    (s.engine.contactorTimer ≠ none →
      exec .contactorTimerExpiry s = .next (State.raise .contactor .none { s with engine.contactorTimer := none })) ∧
    (s.engine.contactorTimer = none → exec .contactorTimerExpiry s = .next s)) ∧
  (∀ (s : State) (i : Instr) (g : GroupId) (closed : Bool) (before : FaultTable), s.loading = false →
    i = .restart ∧ closed = true ∧ before = (s.clear .forced .none).faults ∧ isStopped s.engine.mode = true ∧
        s.seq.plan.validity = .valid ∧ s.saving = false ∧
        (∀ r ∈ s.faults.records, r.kind ≠ .conflictObserved ∧ (r.kind = .senseFault → r.state = .inactive)) ∨
      i = .forceFlash ∧ closed = true ∧ before = (s.raise .forced .none).faults ∧
        (s.engine.mode = .start ∨ isRunning s.engine.mode = true) ∨
      i = .qualifierFlash ∧ closed = true ∧ before = s.faults ∧
        (s.engine.mode = .start ∨ isRunning s.engine.mode = true) ∨
      i = .forceOff ∧ closed = false ∧ before = (s.raise .forced .none).faults ∧ s.engine.mode ≠ .supplyOff ∨
      i = .conflictObservedDeclaration g ∧ closed = false ∧ before = s.faults ∧ s.engine.mode ≠ .supplyOff ∧
        s.engine.mode ≠ .dark →
    ∃ u, exec i s = .next u ∧ u.engine.contactorClosed = closed ∧ u.engine.feedbackClosed = s.engine.feedbackClosed ∧
      (s.engine.contactorClosed = closed → u.engine.contactorTimer = s.engine.contactorTimer ∧ u.faults = before) ∧
      (s.engine.contactorClosed ≠ closed → s.engine.feedbackClosed ≠ closed →
        u.engine.contactorTimer = some s.nowMs ∧ u.faults = before) ∧
      (s.engine.contactorClosed ≠ closed → s.engine.feedbackClosed = closed →
        u.engine.contactorTimer = none ∧ u.faults = before.clear .contactor .none))

/-! ## The configuration store -/

/-- R174 to R176: reset, the end of the load, SAVE_STORE, its writes and the end of a save. A reset leaves every port
IDLE with no response (R166) and the sequencer's running fields at their reset values (R62, R63, R67, R84, R87). An
image is GOOD when its header reads COMPLETE with the length the sections require and its CRC matches; a good one gives
every stored field, each from its own place, the stage records past a plan's count being 0; a bad one, or 2.5 s without
an end, gives every stored field its default and raises STORE_CHECK; either way the running fields are at their reset
values and the part is DARK. A save copies every stored field, writes the header INCOMPLETE, the sections, the CRC and
the header COMPLETE, so that a memory cut off between two writes is BAD and the whole memory is the image, and ends GOOD
or BAD by what is read back within 2.5 s. The model's choices: what stored fields hold before the load ends (log 3), the
first write in the event of the request, one more in each ms of a save and what an idle step does (logs 4 and 23), what
a reset keeps (logs 6 and 36), ends and timeouts taken outside LOADING or SAVING (log 9), the test interval as one byte, on
which the places after it and the length rest (log 11), and the header's layout, a field outside its range in a GOOD
image, which is a free value, and the image length counting header and CRC (log 13), and the fields of a GOOD image
being taken each by itself, whatever the rules say of two together (log 33). -/
def Obligations.StoreMoves : Prop :=
  (∀ (s : State) (memory : List Byte),
    (∃ u, exec .powerOnReset s = .next u ∧ u.pending = s.pending ∧ u.expiries = s.expiries ∧ u.outbox = [] ∧ u.uptimeMs = 0 ∧
      (∀ p : Port, u.ports.at p =
        { state := .idle, received := [], response := none, overrun := false, shadow := [], ignoring := false,
          selected := (s.ports.at p).selected, sending := false, shifted := 0, dataOut := 0#8, lastByte := 0#32 }) ∧
      u.seq = Sequencer.atReset Image.default.plans Image.default.substs 0 (u.seq.form 1) s.seq.sync.input .low ∧
      u.engine =
        { State.reset.engine with
          feedbackClosed := s.engine.feedbackClosed
          hand := { raw := s.engine.hand.raw, debounced := false, timer := none }
          stepButton := { raw := s.engine.stepButton.raw, debounced := false, timer := none } } ∧
      u.store = { State.reset.store with memory := s.store.memory } ∧ u.conflicts = State.reset.conflicts ∧
      u.lamps = State.reset.lamps ∧
      u.cable = State.reset.cable ∧ u.quals = State.reset.quals ∧ u.faults = FaultTable.empty ∧
      u.history = History.empty ∧ u.engine.mode = .dark ∧ u.engine.groups = State.reset.engine.groups ∧
      u.engine.aspects = State.reset.engine.aspects ∧ u.engine.contactorClosed = false ∧
      u.engine.feedbackClosed = s.engine.feedbackClosed ∧ u.engine.hand.raw = s.engine.hand.raw ∧
      u.engine.hand.debounced = false ∧ u.engine.stepButton.raw = s.engine.stepButton.raw ∧
      u.seq.plans = State.reset.seq.plans ∧ u.seq.sync.input = s.seq.sync.input) ∧
    (s.loading = true → ∀ (i : Instr) (o : Option Image),
      i = .storeLoadEnd memory ∧ o = (if s.store.timer ≤ 2500 then judgeImage memory else none) ∨
        i = .storeLoadTimeout ∧ o = none →
      ∃ u, exec i s = .next u ∧ u.image = o.getD Image.default ∧ u.store.state = .idle ∧
        u.store.lastLoad = (if o = none then .bad else .good) ∧ u.store.lastSave = .none ∧
        u.faults.records =
          (if o = none then [FaultRecord.mk .storeCheck .none .active false 0#32 0#32 1] else []) ∧
        u.history = History.empty ∧ u.outbox = [] ∧ u.pending = s.pending ∧ u.expiries = s.expiries ∧
        u.uptimeMs = 0 ∧ u.engine.clock = 0 ∧
        u.engine.mode = .dark ∧ u.seq.state = .stopped ∧ u.seq.cycleTimer = 0 ∧ u.cable.flight = none ∧
        u.cable.queue = [] ∧ u.lamps.scanState = .suspended ∧
        u.seq = Sequencer.atReset u.seq.plans u.seq.substs u.seq.inForce (u.seq.form 1) s.seq.sync.input
          (if s.seq.sync.input then .high else .low) ∧
        u.ports = s.ports ∧ ((∀ p : PlanId, u.seq.plans[p].validity = .invalid) → u.seq.inForce = 0) ∧
        (∀ g : GroupId, u.engine.groups[g].state = .dark) ∧ (∀ q : QualId, u.quals[q].state = .idle) ∧
        (∀ p : PlanId, u.seq.plans[p].validity = .valid →
          u.seq.plans[u.seq.inForce].validity = .valid ∧ u.seq.inForce ≤ p)) ∧
    (s.loading = false → exec (.storeLoadEnd memory) s = .next s ∧ exec .storeLoadTimeout s = .next s) ∧
    (s.loading = false → s.saving = true → exec .saveStore s = .next (s.refusedWith .plan 53 .busy)) ∧
    (s.loading = false → s.saving = false → exec .saveStore s = .next (State.ok .plan 53 []
      { s with
        store.state := .saving
        store.copy := some s.image
        store.timer := 0
        store.toWrite := s.image.writes.drop 1
        store.memory := [1#8, 0x37#8, 0x08#8] ++ s.store.memory.drop 3 })) ∧
    (s.saving = true → ∀ (i : Instr) (good : Bool) (held : List Byte),
      i = .storeSaveEnd memory ∧ held = memory ∧ good = ((judgeImage memory).isSome && decide (s.store.timer ≤ 2500)) ∨
        i = .storeSaveTimeout ∧ held = s.store.memory ∧ good = false →
      ∃ u, exec i s = .next u ∧
        u.store =
          { s.store with
            state := .idle
            lastSave := if good then .good else .bad
            lastSaveTime := s.nowSec
            copy := none
            timer := 0
            toWrite := []
            memory := held } ∧
        u.faults = (if good then (s.clear .storeCheck .none).faults else (s.raise .storeCheck .none).faults) ∧
        u = { s with store := u.store, faults := u.faults }) ∧
    (s.saving = false → exec (.storeSaveEnd memory) s = .next s ∧ exec .storeSaveTimeout s = .next s) ∧
    -- the writes of a save, one in each ms
    (s.saving = true → s.pending = [] → s.outbox = [] → s.expired = [] → s.uptimeMs % 100 ≠ 99 →
      (∀ (w : StoreWrite) (rest : List StoreWrite), s.store.toWrite = w :: rest →
        step s = .next { s with
          uptimeMs := s.uptimeMs + 1
          store.timer := s.store.timer + 1
          store.toWrite := rest
          store.memory := s.store.memory.take w.place ++ w.bytes ++ s.store.memory.drop (w.place + w.bytes.length) }) ∧
      (s.store.toWrite = [] → step s = .next { s with uptimeMs := s.uptimeMs + 1, store.timer := s.store.timer + 1 })) ∧
    (∀ (ms : Nat) (r : Store), r = s.store →
      (r.state = .idle → Store.pass ms r = r) ∧
      (r.state = .loading → Store.pass ms r = { r with timer := r.timer + ms }) ∧
      (r.state = .saving → Store.pass ms r =
        { r with
          timer := r.timer + ms
          toWrite := r.toWrite.drop ms
          memory := (r.toWrite.take ms).foldl StoreWrite.into r.memory }))) ∧
  -- the image
  (∀ m : Image,
    m.writes =
      [⟨0, [1#8, 0x37#8, 0x08#8]⟩, ⟨3, m.sections⟩, ⟨2101, m.crc⟩, ⟨0, [0#8, 0x37#8, 0x08#8]⟩] ∧
    (∀ memory : List Byte,
      (m.writes.foldl StoreWrite.into memory).take 2103 = m.bytes ∧
      ∀ k : Nat, 1 ≤ k → k ≤ 3 → judgeImage ((m.writes.take k).foldl StoreWrite.into memory) = none)) ∧
  (∀ p : Plan, planBytes p =
    u16 p.cycle ++ u16 p.offset ++ flag p.sync ++ flag p.dim ++ u8 p.count ++
    (List.range 12).flatMap (fun k => if k < p.count then stageBytes (p.stage (k + 1)) else List.replicate 10 0#8) ++
    enum validities p.validity) ∧
  (∀ memory : List Byte,
    (judgeImage memory = none ↔
      memory.take 3 ≠ [0#8, 0x37#8, 0x08#8] ∨ memory.length < 2103 ∨
      ∀ crc : BitVec 16, crc = (memory.take 2101).foldl crcByte 0xFFFF#16 →
        (memory.drop 2101).take 2 ≠ [BitVec.ofNat 8 (crc.toNat / 256), BitVec.ofNat 8 crc.toNat]) ∧
    (∀ (m : Image) (b w : Nat → Nat) (bit : Nat → Nat → Bool), judgeImage memory = some m →
      b = (fun k => (memory.getD k 0#8).toNat) → w = (fun k => b k + 256 * b (k + 1)) →
      bit = (fun k n => (memory.getD (k + n / 8) 0#8).getLsbD (n % 8)) →
      (∀ x : ScanMode, b 3 = codeOf scanModes x → m.scanMode = x) ∧
      (2 ≤ b 4 → b 4 ≤ 15 → m.filter = b 4) ∧
      (10 ≤ b 5 → b 5 ≤ 200 → m.threshold = b 5) ∧
      ((∀ i j : GroupId, bit (6 + 2 * i.val) j.val = bit (6 + 2 * j.val) i.val ∧ bit (6 + 2 * i.val) i.val = false) →
        ∀ i j : GroupId, m.matrix[i][j] = bit (6 + 2 * i.val) j.val) ∧
      (∀ i j : GroupId, m.intergreens[i][j] = memory.getD (38 + 16 * i.val + j.val) 0#8) ∧
      (∀ (g : GroupId) (t : GroupType) (k : Nat) (limits : Timing → Nat × Nat), k = 294 + 8 * g.val →
        b k = codeOf groupTypes t → limits = timingLimits t →
        m.groups[g].type = t ∧
        ((limits .minGreen).1 ≤ w (k + 1) → w (k + 1) ≤ (limits .minGreen).2 → m.groups[g].minGreen = w (k + 1)) ∧
        ((limits .redAmber).1 ≤ b (k + 3) → b (k + 3) ≤ (limits .redAmber).2 → m.groups[g].redAmber = b (k + 3)) ∧
        ((limits .amber).1 ≤ b (k + 4) → b (k + 4) ≤ (limits .amber).2 → m.groups[g].amber = b (k + 4)) ∧
        ((limits .clearance).1 ≤ w (k + 5) → w (k + 5) ≤ (limits .clearance).2 →
          m.groups[g].clearance = w (k + 5)) ∧
        ((limits .minRed).1 ≤ b (k + 7) → b (k + 7) ≤ (limits .minRed).2 → m.groups[g].minRed = b (k + 7))) ∧
      (∀ (c : CoreId) (t : LampType) (k least : Nat), k = 422 + 9 * c.val → b (k + 1) = codeOf lampTypes t →
        least = (if t = .filament then 16 else 320) →
        m.lamps[c].type = t ∧
        (b k ≤ 4 → m.lamps[c].fitted = b k) ∧
        (least ≤ w (k + 2) → w (k + 2) ≤ 65520 → m.lamps[c].bright = w (k + 2)) ∧
        (least ≤ w (k + 4) → w (k + 4) ≤ 65520 → m.lamps[c].dim = w (k + 4)) ∧
        (b (k + 6) ≤ 200 → m.lamps[c].leak = b (k + 6)) ∧
        (1 ≤ b (k + 7) → b (k + 7) ≤ 8 → m.lamps[c].tolerance = b (k + 7)) ∧
        (b (k + 8) ≤ 1 → m.lamps[c].frozen = decide (b (k + 8) = 1))) ∧
      (∀ (p : PlanId) (r : Plan) (k : Nat), k = 998 + 128 * p.val →
        r.cycle = w k → r.offset = w (k + 2) → (if r.sync then 1 else 0) = b (k + 4) →
        (if r.dim then 1 else 0) = b (k + 5) → r.count = b (k + 6) → r.count ≤ 12 →
        codeOf validities r.validity = b (k + 127) →
        (r.validity = .valid → planInRange r.cycle r.offset (r.stages.toList.take r.count) = true) →
        (∀ n : Fin 12, r.count ≤ n.val → r.stages[n] = Stage.zero) →
        (∀ (n : Fin 12) (j : Nat), n.val < r.count → j = k + 7 + 10 * n.val →
          (∀ g : GroupId, r.stages[n].set[g] = bit j g.val) ∧ r.stages[n].endPoint = w (j + 2) ∧
          r.stages[n].stageMin = w (j + 4) ∧ r.stages[n].stageMax = w (j + 6) ∧
          (if r.stages[n].demandDependent then 1 else 0) = b (j + 8) ∧
          (if r.stages[n].elastic then 1 else 0) = b (j + 9)) →
        m.plans[p] = r) ∧
      (∀ (e : Fin 2) (k : Nat), k = 2022 + 10 * e.val →
        (1 ≤ b k → b k ≤ 8 → m.substs[e].plan.val + 1 = b k) ∧
        (1 ≤ b (k + 1) → b (k + 1) ≤ 12 → m.substs[e].stage = b (k + 1)) ∧
        (∀ g : GroupId, m.substs[e].set[g] = bit (k + 2) g.val) ∧
        (w (k + 4) ≤ 600 → m.substs[e].stageMin = w (k + 4) ∧
          (w (k + 4) ≤ w (k + 6) → w (k + 6) ≤ 1200 → m.substs[e].stageMax = w (k + 6))) ∧
        (b (k + 8) ≤ 1 → m.substs[e].demandFlag = decide (b (k + 8) = 1)) ∧
        (b (k + 9) ≤ 1 → m.substs[e].enabled = decide (b (k + 9) = 1))) ∧
      (∀ (q : QualId) (k : Nat), k = 2042 + 11 * q.val →
        (∀ x : QualifierSource, b k = codeOf qualifierSources x → m.qualifiers[q].source = x) ∧
        (1 ≤ b (k + 1) → b (k + 1) ≤ 64 → m.qualifiers[q].subject.val + 1 = b (k + 1)) ∧
        m.qualifiers[q].a.limit = (BitVec.ofNat 16 (w (k + 2))).toInt ∧
        (∀ x : Condition, b (k + 4) = codeOf conditions x → m.qualifiers[q].a.condition = x) ∧
        m.qualifiers[q].b.limit = (BitVec.ofNat 16 (w (k + 5))).toInt ∧
        (∀ x : Condition, b (k + 7) = codeOf conditions x → m.qualifiers[q].b.condition = x) ∧
        (∀ x : CombineRule, b (k + 8) = codeOf combineRules x → m.qualifiers[q].combine = x) ∧
        (1 ≤ b (k + 9) → m.qualifiers[q].count = b (k + 9)) ∧
        (∀ x : QualifierAction, b (k + 10) = codeOf qualifierActions x → m.qualifiers[q].action = x)) ∧
      (b 2086 ≤ 1 → m.cableEnabled = decide (b 2086 = 1)) ∧
      (b 2087 ≤ 1 → m.cyclicRunning = decide (b 2087 = 1)) ∧
      (∀ c : CoreId, m.testSet[c] = bit 2088 c.val) ∧
      (1 ≤ b 2096 → b 2096 ≤ 60 → m.interval = b 2096) ∧
      (w 2097 ≤ 600 → m.startFlash = w 2097) ∧
      (30 ≤ w 2099 → w 2099 ≤ 300 → m.allRed = w 2099))) ∧
  -- the values of a failed check
  (∀ m : Image, m = Image.default →
    m.scanMode = .fourRow ∧ m.filter = 3 ∧ m.threshold = 40 ∧
    (∀ i j : GroupId, (m.matrix[i][j] = true ↔ i ≠ j) ∧ (m.intergreens[i][j]).toNat = 255) ∧
    (∀ g : GroupId, m.groups[g] =
      { type := .unused, minGreen := 0, redAmber := 0, amber := 0, clearance := 0, minRed := 0 }) ∧
    (∀ c : CoreId, m.lamps[c] =
      { fitted := 0, type := .filament, bright := 1600, dim := 960, leak := 0, tolerance := 4, frozen := false } ∧
      m.testSet[c] = false) ∧
    (∀ p : PlanId, m.plans[p].validity = .invalid ∧ m.plans[p].cycle = 0 ∧ m.plans[p].offset = 0 ∧
      m.plans[p].sync = false ∧ m.plans[p].dim = false ∧ m.plans[p].count = 0 ∧
      ∀ k : Fin 12, m.plans[p].stages[k] = Stage.zero) ∧
    (∀ e : EntryId, m.substs[e] =
      { plan := 0, stage := e.val + 1, set := noGroups, stageMin := 0, stageMax := 0, demandFlag := false,
        enabled := false }) ∧
    (∀ q : QualId, m.qualifiers[q] =
      { source := .cableLeakage, subject := coreOf 0 .R, a := { limit := 0, condition := .above },
        b := { limit := 0, condition := .above }, combine := .aOrB, count := 1, action := .report }) ∧
    m.cableEnabled = false ∧ m.cyclicRunning = false ∧ m.interval = 5 ∧ m.startFlash = 50 ∧ m.allRed = 60)

/-! ## Ports -/

/-- R167, R169, R171, R172: the check byte of a frame. The frame is tested for its sum, its code, the port's right and
its length in this order, and the first test that fails is answered with no effect on any other block; a frame that
passes runs the request it spells, with the port PENDING, in the same event. The payload spells the arguments of the
request's rule in order, and the length it requires is the sum of their sizes. Which event takes a byte is the model's
choice (log 8), and so are the one byte of a TEST_INTERVAL (log 11) and the lengths of a WRITE_PLAN part that names no
staged plan or no part (log 12). -/
def Obligations.FramesAnswered : Prop :=
  (∀ (s t : State) (p : Port) (b : Byte) (r : PortRecord) (frame payload : List Byte) (code : Nat) (i : Instr),
    s.loading = false → r = s.ports.at p → r.state = .receiving → r.shadow = [] → r.ignoring = false →
    expectsCheck r.received = true → frame = r.received ++ [b] → code = (frame.getD 1 0#8).toNat →
    payload = (r.received.drop 3) →
    i = .incomingByte p b ∨ i = .requestFrameComplete p b →
    t = (s.onPort p fun r =>
      { (if p = .maintenance then r else r.shift) with lastByte := s.nowMs }) →
    (byteSum (frame.drop 1) ≠ 0#8 → exec i s = .next (t.refusedWith p code .badCheck)) ∧
    (byteSum (frame.drop 1) = 0#8 →
      (code = 0 ∨ 54 < code → exec i s = .next (t.refusedWith p code .badRequest)) ∧
      (1 ≤ code → code ≤ 54 → permitted code p = false → exec i s = .next (t.refusedWith p code .notPermitted)) ∧
      (permitted code p = true →
        (readRequest code p s.seq.staging payload = none → exec i s = .next (t.refusedWith p code .badLength)) ∧
        (∀ j, readRequest code p s.seq.staging payload = some j →
          requestOf j = some (p, code) ∧
          exec i s = exec j (t.onPort p fun r => { r with state := .pending, received := frame }))))) ∧
  -- what a payload spells
  (∀ (p : Port) (g : Option PlanStaging) (bytes : List Byte) (b w : Nat → Nat) (i : Nat → Int)
    (bits : (n k : Nat) → Vector Bool n) (stages : Nat → Nat → List StageArgs) (spells : Nat → Nat → Instr → Prop),
    b = (fun k => (bytes.getD k 0#8).toNat) → w = (fun k => b k + 256 * b (k + 1)) →
    i = (fun k => (BitVec.ofNat 16 (w k)).toInt) →
    bits = (fun n k => Vector.ofFn fun j : Fin n => (bytes.getD (k + j.val / 8) 0#8).getLsbD (j.val % 8)) →
    stages = (fun k n => (List.range n).map fun j =>
      { set := bits 16 (k + 10 * j), endPoint := w (k + 10 * j + 2), stageMin := w (k + 10 * j + 4),
        stageMax := w (k + 10 * j + 6), demandDependent := b (k + 10 * j + 8), elastic := b (k + 10 * j + 9) }) →
    spells = (fun code length j =>
      readRequest code p g bytes = if bytes.length = length then some j else none) →
    spells 1 9 (.writeGroup (b 0) (b 1) (w 2) (b 4) (b 5) (w 6) (b 8)) ∧ spells 2 1 (.readGroup p (b 0)) ∧
    spells 3 0 .restart ∧ spells 4 4 (.writeStartTimes (w 0) (w 2)) ∧ spells 5 0 .forceFlash ∧
    spells 6 0 .forceOff ∧ spells 7 0 (.hold p) ∧ spells 8 0 (.resume p) ∧
    (bytes.length ≠ 1 → spells 9 0 (.step p none)) ∧ (bytes.length ≠ 0 → spells 9 1 (.step p (some (b 0)))) ∧
    spells 10 1 (.runSteps p (b 0)) ∧ spells 11 0 (.readMode p) ∧
    spells 12 32 (.writeConflicts (Vector.ofFn fun x : Fin 16 => bits 16 (2 * x.val))) ∧
    spells 13 65 (.writeIntergreens (b 0)
      (Vector.ofFn fun x : Fin 4 => Vector.ofFn fun y : Fin 16 => bytes.getD (1 + 16 * x.val + y.val) 0#8)) ∧
    spells 14 0 (.readConflicts p) ∧ spells 15 1 (.readIntergreens p (b 0)) ∧ spells 16 0 (.readInterstage p) ∧
    (bytes = [] → readRequest 17 p g bytes = none) ∧
    (b 0 = 1 → spells 17 (9 + 10 * min (b 8) 6)
      (.writePlan (.one (b 1) (w 2) (w 4) (b 6) (b 7) (b 8) (stages 9 (min (b 8) 6))))) ∧
    (b 0 = 2 → ∀ m : Nat,
      (∀ x, g = some x → x.plan.val + 1 = b 1 → 6 < x.count → m = x.count - 6) →
      ((∀ x, g = some x → x.plan.val + 1 = b 1 → x.count ≤ 6) → m = (bytes.length - 2) / 10) →
      spells 17 (2 + 10 * m) (.writePlan (.two (b 1) (stages 2 m)))) ∧
    (bytes ≠ [] → b 0 ≠ 1 → b 0 ≠ 2 → readRequest 17 p g bytes = some (.writePlan (.other (b 0)))) ∧
    spells 18 2 (.readPlan p (b 0) (b 1)) ∧ spells 19 1 (.selectPlan (b 0)) ∧ spells 20 1 (.demand (b 0)) ∧
    spells 21 1 (.extend (b 0)) ∧
    spells 22 10 (.writeSubst (b 0) (b 1) (b 2) (bits 16 3) (w 5) (w 7) (b 9)) ∧
    spells 23 1 (.enableSubst (b 0)) ∧ spells 24 1 (.disableSubst (b 0)) ∧ spells 25 0 (.readSubst p) ∧
    spells 26 0 (.readSequence p) ∧ spells 27 0 (.readSync p) ∧ spells 28 3 (.writeScan (b 0) (b 1) (b 2)) ∧
    spells 29 0 (.readSnapshot p) ∧ spells 30 1 (.readScan p (b 0)) ∧
    spells 31 10 (.writeLamp (b 0) (b 1) (b 2) (w 3) (w 5) (b 7) (b 8) (b 9)) ∧ spells 32 1 (.learn (b 0)) ∧
    spells 33 1 (.readLamp p (b 0)) ∧ spells 34 0 .testEnable ∧ spells 35 0 .testDisable ∧
    spells 36 8 (.testSet (bits 64 0)) ∧ spells 37 1 (.testInterval (b 0)) ∧ spells 38 0 .testStartCyclic ∧
    spells 39 0 .testStop ∧ spells 40 1 (.testCore (b 0)) ∧ spells 41 1 (.clearCable (b 0)) ∧
    spells 42 1 (.readCable p (b 0)) ∧ spells 43 0 (.readTestUnit p) ∧
    spells 44 12 (.writeQualifier (b 0)
      { source := b 1, subject := b 2, a := { limit := i 3, condition := b 5 }, b := { limit := i 6, condition := b 8 },
        combine := b 9, count := b 10, action := b 11 }) ∧
    spells 45 1 (.arm (b 0)) ∧ spells 46 1 (.disarm (b 0)) ∧ spells 47 1 (.readQualifier p (b 0)) ∧
    spells 48 2 (.ackFault p (b 0) (b 1)) ∧ spells 49 0 .clearOverflow ∧ spells 50 1 (.readFaults p (b 0)) ∧
    spells 51 0 (.readHistory p) ∧ spells 52 0 (.seekHistory p) ∧ spells 53 0 .saveStore ∧
    spells 54 0 (.readStore p))

/-- R166 to R170: the other bytes and events of a port. A start byte begins a frame; a length above 96 is answered
BAD_LENGTH once the frame has ended; a frame gathered while the port is PENDING or RESPONDING only sets the overrun
flag; a selection sends a waiting response from its first byte, one byte of its frame for each byte that comes in and
0x00 otherwise; and the release, the maintenance gap and the end of a response give up what they end. No block but the
port moves. Which event takes a byte is the model's choice (log 8). -/
def Obligations.PortBytesTaken : Prop :=
  ∀ (s : State) (p : Port) (b : Byte) (r q : PortRecord), s.loading = false → r = s.ports.at p →
    q = { (if p = .maintenance then r else r.shift) with lastByte := s.nowMs } →
    (r.ignoring = false → r.shadow = [] →
      (r.state = .idle → exec (.incomingByte p b) s = .next (s.onPort p fun _ =>
        if b = 0xA5#8 then { q with state := .receiving, received := [b] } else q)) ∧
      (r.state = .receiving → r.received.length = 2 → 96 < b.toNat →
        (∀ i, i = .incomingByte p b ∨ i = .frameLengthOver96 p b → exec i s = .next (s.onPort p fun _ =>
          { q with
            state := .discarding
            received := []
            response := some { code := r.received.getD 1 0#8, status := .badLength, overrun := r.overrun, payload := [] }
            overrun := false
            sending := false
            shifted := 0 }))) ∧
      (r.state = .receiving → (r.received.length = 2 → b.toNat ≤ 96) → expectsCheck r.received = false →
        exec (.incomingByte p b) s = .next (s.onPort p fun _ => { q with received := r.received ++ [b] })) ∧
      (r.state = .pending ∨ r.state = .responding → exec (.incomingByte p b) s = .next (s.onPort p fun _ =>
        if b = 0xA5#8 then { q with shadow := [b] } else q)) ∧
      (r.state = .discarding → exec (.incomingByte p b) s = .next (s.onPort p fun _ => q))) ∧
    (r.ignoring = false → r.shadow ≠ [] → r.shadow.length ≠ 2 → expectsCheck r.shadow = true →
      ∀ i, i = .incomingByte p b ∨ i = .requestFrameComplete p b →
        exec i s = .next (s.onPort p fun _ => { q with overrun := true, shadow := [] })) ∧
    (r.ignoring = false → r.shadow.length = 2 → 96 < b.toNat →
      ∀ i, i = .incomingByte p b ∨ i = .frameLengthOver96 p b →
        exec i s = .next (s.onPort p fun _ => { q with overrun := true, shadow := [], ignoring := true })) ∧
    (r.ignoring = false → r.shadow ≠ [] → (r.shadow.length = 2 → b.toNat ≤ 96) → expectsCheck r.shadow = false →
      exec (.incomingByte p b) s = .next (s.onPort p fun _ => { q with shadow := r.shadow ++ [b] })) ∧
    (r.ignoring = true → exec (.incomingByte p b) s = .next (s.onPort p fun _ => q)) ∧
    -- the bytes of a response
    (p ≠ .maintenance → r.sending = false → q = { r with dataOut := 0#8, lastByte := s.nowMs }) ∧
    (p ≠ .maintenance → r.sending = true → ∀ a : Response, r.response = some a → ∀ (status : Nat) (body : List Byte),
      status = (match a.status with
        | .ok => 0x00
        | .badCheck => 0x01
        | .badLength => 0x02
        | .badRequest => 0x03
        | .notPermitted => 0x04
        | .wrongMode => 0x05
        | .range => 0x06
        | .busy => 0x07
        | .armed => 0x08
        | .conflict => 0x09
        | .inUse => 0x0A
        | .invalidPlan => 0x0B
        | .notOwner => 0x0C
        | .blocked => 0x0D
        | .queueFull => 0x0E
        | .empty => 0x0F) →
      body = [a.code, BitVec.ofNat 8 (status + if a.overrun then 0x80 else 0x00), BitVec.ofNat 8 a.payload.length] ++
        a.payload →
      ∃ check : Byte, (body.map BitVec.toNat).sum + check.toNat ≡ 0 [MOD 256] ∧
        q = { r with
              dataOut := ([0x5A#8] ++ body ++ [check]).getD r.shifted 0#8
              shifted := r.shifted + 1
              lastByte := s.nowMs } ∧
        (r.sentWhole = true ↔ r.state = .responding ∧ body.length + 2 ≤ r.shifted)) ∧
    (p ≠ .maintenance →
      exec (.selectionStart p) s = .next (s.onPort p fun r =>
        { r with
          state := match r.state with
            | .receiving => .idle
            | .discarding => .responding
            | x => x
          received := if r.state = .receiving then [] else r.received
          shadow := []
          ignoring := false
          selected := true
          sending := r.state == .responding || r.state == .discarding
          shifted := 0 }) ∧
      exec (.selectRelease p) s = .next (s.onPort p fun r =>
        if r.sentWhole then
          { r with state := .idle, response := none, shadow := [], ignoring := false, selected := false,
                   sending := false, shifted := 0, dataOut := 0#8 }
        else
          { r with
            state := match r.state with
              | .receiving => .idle
              | .discarding => .responding
              | x => x
            received := if r.state = .receiving then [] else r.received
            shadow := []
            ignoring := false
            selected := false
            sending := false
            shifted := 0
            dataOut := 0#8 })) ∧
    exec .maintenanceGapExpiry s = .next (s.onPort .maintenance fun r =>
      { r with
        state := match r.state with
          | .receiving => .idle
          | .discarding => .responding
          | x => x
        received := if r.state = .receiving then [] else r.received
        shadow := []
        ignoring := false }) ∧
    exec .maintenanceResponseSent s = .next (s.onPort .maintenance fun r =>
      if r.state = .responding then { r with state := .idle, response := none, sending := false, shifted := 0 } else r)

/-- R16, R39, R46, R54, R65, R82, R94, R109, R110, R127, R145, R155, R163, R172, R177: a read answers OK with every field
its rule lists, in that order and by the conventions of R172, the decisecond clock at its end where its rule asks for it,
and changes nothing; an argument outside its range is refused. What R172 does not table is the model's: how sets of stages,
tags, the slot, the start conditions, the queue and the test in flight, and the test interval are laid out (log 11); free
bytes for a field that holds no value, and the 128 bytes of READ_SCAN (log 12); and the image length of READ_STORE, which
counts header and CRC (log 13). -/
def Obligations.ReadsAnswered : Prop :=
  ∀ (s : State) (p : Port) (n : Nat) (clock : List Byte) (tag : Tag → List Byte) (correction : Correction → List Byte)
    (comparator : Comparator → List Byte), s.loading = false → clock = u32 s.engine.clock →
    tag = (fun t => u8 (t.plan.val + 1) ++ u8 t.stage ++ flag t.substituted ++ u16 t.cycleAt) →
    correction = (fun c => enum correctionStates c.state ++ enum directions c.direction ++ u16 c.amount ++
      u16 c.applied ++ u16 c.remaining ++ u16 c.planned) →
    comparator = (fun k => i16 k.limit ++ enum conditions k.condition) →
    (∀ (g : GroupId) (r : Group), r = s.engine.groups[g] →
      exec (.readGroup p (g.val + 1)) s = .next (State.ok p 2
        (enum groupTypes r.type ++ enum groupStates r.state ++ u16 r.timeInState ++ u32 r.lastGreenEnd ++
         u32 r.greenStart ++ u16 r.minGreen ++ u8 r.redAmber ++ u8 r.amber ++ u16 r.clearance ++ u8 r.minRed ++
         flag r.redLost ++ flag r.inhibited ++ flag r.withheld ++ enum aspectCommands (s.command (coreOf g .R)) ++
         enum aspectCommands (s.command (coreOf g .A)) ++ enum aspectCommands (s.command (coreOf g .G)) ++
         enum aspectCommands (s.command (coreOf g .X)) ++ clock) s)) ∧
    (n = 0 ∨ 16 < n → exec (.readGroup p n) s = .next (s.refusedWith p 2 .range)) ∧
    exec (.readMode p) s = .next (State.ok p 11
      (enum modes s.engine.mode ++ enum startPhases s.engine.startPhase ++ u16 s.engine.phaseTime ++
       u16 s.engine.startFlash ++ u16 s.engine.allRed ++ enum holdCauses s.engine.hold.cause ++
       u32 s.engine.hold.entered ++ flag s.engine.hold.pending ++ enum holdCauses s.engine.hold.pendingCause ++
       enum budgetPorts s.engine.hold.budgetPort ++ u8 s.seq.budget ++ flag s.engine.interstage.inFlight ++
       flag (s.engine.slot != none) ++ flag s.engine.hand.debounced ++ flag s.engine.stepButton.debounced ++ clock) s) ∧
    exec (.readConflicts p) s = .next (State.ok p 14 (s.conflicts.matrix.toList.flatMap groupSetBytes ++ clock) s) ∧
    (∀ k : Fin 4, exec (.readIntergreens p (k.val + 1)) s = .next (State.ok p 15
      ((List.range 64).map (fun j =>
        (s.conflicts.intergreens.toList.getD (4 * k.val + j / 16) (Vector.replicate 16 0#8)).toList.getD (j % 16) 0#8) ++
       clock) s)) ∧
    (n = 0 ∨ 4 < n → exec (.readIntergreens p n) s = .next (s.refusedWith p 15 .range)) ∧
    (∀ (t slot : List Byte) (inhibited withheld : GroupSet),
      t = (match s.engine.interstage.tag with
        | some x => tag x
        | none => (List.range 5).map (Config.absentByte .interstageTag)) →
      slot = (match s.engine.slot with
        | some r => flag true ++ groupSetBytes r.set ++ tag r.tag
        | none => flag false) →
      (∀ g : GroupId, inhibited[g] = s.engine.groups[g].inhibited ∧ withheld[g] = s.engine.groups[g].withheld) →
      exec (.readInterstage p) s = .next (State.ok p 16
        (flag s.engine.interstage.inFlight ++ groupSetBytes s.engine.interstage.target ++
         groupSetBytes s.engine.interstage.leaving ++ groupSetBytes s.engine.interstage.entering ++
         u32 s.engine.interstage.begunAt ++ t ++ slot ++ groupSetBytes inhibited ++ groupSetBytes withheld ++
         (List.finRange 16).flatMap (fun g : GroupId =>
           if s.engine.interstage.entering[g] = true ∧ s.engine.groups[g].state = .red then
             flag s.engine.startTests[g].notInhibited ++ flag s.engine.startTests[g].minRedRun ++
             flag s.engine.startTests[g].intergreensRun
           else []) ++ clock) s)) ∧
    (∀ (l : PlanId) (r : Plan) (stage : Nat → List Byte), r = s.seq.plans[l] →
      stage = (fun k => groupSetBytes (r.stage k).set ++ u16 (r.stage k).endPoint ++ u16 (r.stage k).stageMin ++
        u16 (r.stage k).stageMax ++ flag (r.stage k).demandDependent ++ flag (r.stage k).elastic) →
      exec (.readPlan p (l.val + 1) 1) s = .next (State.ok p 18
        (u16 r.cycle ++ u16 r.offset ++ flag r.sync ++ flag r.dim ++ u8 r.count ++ enum validities r.validity ++
         flag (s.seq.inForce == l) ++ flag (s.seq.pendingPlan == some l) ++
         (List.range' 1 (min r.count 6)).flatMap stage) s) ∧
      exec (.readPlan p (l.val + 1) 2) s = .next (State.ok p 18 ((List.range' 7 (r.count - 6)).flatMap stage) s) ∧
      (n = 0 ∨ 2 < n → exec (.readPlan p (l.val + 1) n) s = .next (s.refusedWith p 18 .range))) ∧
    (n = 0 ∨ 8 < n → exec (.readPlan p n 1) s = .next (s.refusedWith p 18 .range)) ∧
    exec (.readSubst p) s = .next (State.ok p 25
      ([s.seq.substs[0], s.seq.substs[1]].flatMap fun e =>
        u8 (e.plan.val + 1) ++ u8 e.stage ++ groupSetBytes e.set ++ u16 e.stageMin ++ u16 e.stageMax ++
        flag e.demandFlag ++ flag e.enabled) s) ∧
    (∀ (pendingPlan latest : List Byte),
      pendingPlan = (match s.seq.pendingPlan with
        | some l => u8 (l.val + 1)
        | none => [Config.absentByte .pendingPlan 0]) →
      latest = (match s.seq.latest.tag with
        | some x => tag x
        | none => (List.range 5).map (Config.absentByte .latestTag)) →
      exec (.readSequence p) s = .next (State.ok p 26
        (u8 (s.seq.inForce.val + 1) ++ pendingPlan ++ enum seqStates s.seq.state ++ u16 s.seq.cycleTimer ++
         u8 s.seq.stageIndex ++ u16 s.seq.stageTimer ++
         u8 (s.seq.running.plan.val + 1) ++ u8 s.seq.running.index ++ groupSetBytes s.seq.running.set ++
         u16 s.seq.running.endPoint ++ u16 s.seq.running.precedingEnd ++ u16 s.seq.running.stageMin ++
         u16 s.seq.running.stageMax ++ flag s.seq.running.demandDependent ++ flag s.seq.running.elastic ++
         flag s.seq.running.substituted ++ groupSetBytes s.seq.latest.set ++ latest ++ u16 s.seq.extensionEnd ++
         flag s.seq.deferred ++ stageSetBytes s.seq.demands ++ u8 s.seq.budget ++ enum budgetPorts s.seq.budgetPort ++
         correction s.seq.correction ++ clock) s)) ∧
    (∀ (pulse plan : List Byte) (y : SyncRecord), y = s.seq.sync →
      pulse = (match y.lastPulse with
        | some c => u32 c
        | none => (List.range 4).map (Config.absentByte .lastPulse)) →
      plan = (match y.lastPlan with
        | some l => u8 (l.val + 1)
        | none => [Config.absentByte .lastPlan 0]) →
      exec (.readSync p) s = .next (State.ok p 27
        (enum filterStates y.filter ++ pulse ++ u16 y.lastCycleTimer ++ plan ++ i16 y.lastError ++ flag y.inStep ++
         enum watchStates y.watch ++ u32 y.watchStart ++ correction s.seq.correction ++ u16 s.seq.plan.offset ++
         u16 s.seq.plan.cycle ++ flag s.seq.plan.sync ++ u16 s.seq.cycleTimer ++ clock) s)) ∧
    (∀ r : Snapshot, p ≠ .plan → r = s.lamps.snapshot → exec (.readSnapshot p) s = .next (State.ok p 29
      (u16 r.sequence.toNat ++ u32 r.clock ++ enum modes r.mode ++ enum scanModes r.scanMode ++
       r.groups.toList.flatMap (fun g =>
         enum groupStates g.state ++
         u8 (g.proven[0] % 16 + 16 * (g.proven[1] % 16)) ++ u8 (g.proven[2] % 16 + 16 * (g.proven[3] % 16)) ++
         u8 ((if g.redLost then 1 else 0) + (if g.unexpected then 2 else 0) + (if g.inhibited then 4 else 0) +
           (if g.withheld then 8 else 0)))) s)) ∧
    (∀ (l : Letter) (u : LampUnit), u = s.lamps → exec (.readScan p (codeOf letters l)) s = .next (State.ok p 30
      (enum scanStates u.scanState ++ enum scanModes u.scanMode ++ u8 u.filter ++ u8 u.threshold ++ u8 u.slotIndex ++
       u16 u.frameSequence.toNat ++ flag u.dimChanged ++ u32 u.lastZeroCross ++
       (List.finRange 16).flatMap (fun g : GroupId =>
         enum latches u.scan[coreOf g l].latched ++ flag u.scan[coreOf g l].moved ++ u8 u.scan[coreOf g l].settle ++
         u16 u.lamps[coreOf g l].lastRaw ++ flag u.lamps[coreOf g l].lastSenseOpen ++
         enum readingClasses u.lamps[coreOf g l].lastClass) ++ clock) s)) ∧
    (4 ≤ n → exec (.readScan p n) s = .next (s.refusedWith p 30 .range)) ∧
    (∀ (c : CoreId) (l : Lamp) (k : CableRecord), l = s.lamps.lamps[c] → k = s.cable.records[c] →
      exec (.readLamp p (c.val + 1)) s = .next (State.ok p 33
        (u8 l.fitted ++ enum lampTypes l.type ++ u16 l.bright ++ u16 l.dim ++ u8 l.leak ++ u8 l.tolerance ++
         flag l.frozen ++ u8 l.candidate ++ u8 l.candidateRun ++ u8 l.proven ++ u8 l.doubtfulRun ++
         u8 l.unexpectedRun ++ u8 l.overloadRun ++ u8 l.quietRun ++ u16 l.lastRaw ++ flag l.lastSenseOpen ++
         u16 l.lastNet ++ enum readingClasses l.lastClass ++ enum learnStates l.learn ++ flag l.redLossDeclared ++
         flag s.engine.dimOn ++ u8 s.lamps.filter ++ u16 s.lamps.frameSequence.toNat ++ clock) s) ∧
      exec (.readCable p (c.val + 1)) s = .next (State.ok p 42
        (enum cableClasses k.cls ++ i16 k.positive ++ i16 k.negative ++ i16 k.leakage ++ i16 k.offset ++ i16 k.worst ++
         u16 k.done ++ u8 k.interrupted ++ u32 k.lastTest ++ u8 l.fitted ++ enum aspectCommands (s.command c)) s)) ∧
    (n = 0 ∨ 64 < n → exec (.readLamp p n) s = .next (s.refusedWith p 33 .range) ∧
      exec (.readCable p n) s = .next (s.refusedWith p 42 .range)) ∧
    (∀ (flight : List Byte) (u : CableUnit), u = s.cable →
      flight = (match u.flight with
        | some f => u8 (f.core.val + 1) ++ enum testSources f.source ++ enum testPhases f.phase ++ u32 f.start ++
            (match f.positive with
             | some x => i16 x
             | none => [])
        | none => []) →
      exec (.readTestUnit p) s = .next (State.ok p 43
        (enum unitStates u.unitState ++ flag u.enabled ++ flag u.cyclicRunning ++ flag u.stopWaiting ++
         coreSetBytes u.testSet ++ u8 u.interval ++ u8 u.pointer ++ u32 u.lastTestEnd ++ flag u.intervalPassed ++
         u.queue.flatMap (fun e => u8 (e.core.val + 1) ++ enum queueOrigins e.origin ++ u32 e.waitStart ++
           flag e.seenEligible ++ flag e.underTest) ++ flight ++ clock) s)) ∧
    (∀ (k : QualId) (q : Qualifier), q = s.quals[k] → exec (.readQualifier p (k.val + 1)) s = .next (State.ok p 47
      (enum qualifierSources q.source ++ u8 (q.subject.val + 1) ++ comparator q.a ++ comparator q.b ++
       enum combineRules q.combine ++ u8 q.count ++ enum qualifierActions q.action ++ u8 q.remaining ++ flag q.aSeen ++
       flag q.bSeen ++ enum qualifierStates q.state ++ clock) s)) ∧
    (n = 0 ∨ 4 < n → exec (.readQualifier p n) s = .next (s.refusedWith p 47 .range)) ∧
    (1 ≤ n → n ≤ 32 → exec (.readFaults p n) s = .next (State.ok p 50
      (u8 s.faults.records.length ++ u8 s.faults.overflow ++ flag s.faults.line ++
       (((s.faults.records.drop (n - 1)).take 6).zipIdx n).flatMap (fun (r, position) =>
         u8 position ++ enum faultKinds r.kind ++
         u8 (match r.subject with
           | .none => 0
           | .group g => g.val + 1
           | .aspect c => c.val + 1
           | .core c => c.val + 1
           | .qualifier q => q.val + 1) ++
         u8 ((if r.state = .active then 1 else 0) + (if r.acknowledged then 2 else 0)) ++ u32 r.firstSeen ++
         u32 r.lastSeen ++ u8 r.occurrences) ++ clock) s)) ∧
    (n = 0 ∨ 32 < n → exec (.readFaults p n) s = .next (s.refusedWith p 50 .range)) ∧
    exec (.readStore p) s = .next (State.ok p 54
      (enum storeStates s.store.state ++ enum loadOutcomes s.store.lastLoad ++ enum saveOutcomes s.store.lastSave ++
       u32 s.store.lastSaveTime ++ u16 2103 ++ clock) s)
end

