-- ==== Sys2Proof/Laws/State.lean ====
section
/-! SUPPORT. One lemma for each field under each updater of State and under the operations that change one field only. -/

namespace Sys2Proof.Machine

variable (s : State)

@[simp] theorem State.onOutbox_pending (f) : (s.onOutbox f).pending = s.pending := rfl
@[simp] theorem State.onOutbox_outbox (f) : (s.onOutbox f).outbox = f s.outbox := rfl
@[simp] theorem State.onOutbox_uptimeMs (f) : (s.onOutbox f).uptimeMs = s.uptimeMs := rfl
@[simp] theorem State.onOutbox_expiries (f) : (s.onOutbox f).expiries = s.expiries := rfl
@[simp] theorem State.onOutbox_engine (f) : (s.onOutbox f).engine = s.engine := rfl
@[simp] theorem State.onOutbox_conflicts (f) : (s.onOutbox f).conflicts = s.conflicts := rfl
@[simp] theorem State.onOutbox_seq (f) : (s.onOutbox f).seq = s.seq := rfl
@[simp] theorem State.onOutbox_lamps (f) : (s.onOutbox f).lamps = s.lamps := rfl
@[simp] theorem State.onOutbox_cable (f) : (s.onOutbox f).cable = s.cable := rfl
@[simp] theorem State.onOutbox_quals (f) : (s.onOutbox f).quals = s.quals := rfl
@[simp] theorem State.onOutbox_faults (f) : (s.onOutbox f).faults = s.faults := rfl
@[simp] theorem State.onOutbox_history (f) : (s.onOutbox f).history = s.history := rfl
@[simp] theorem State.onOutbox_ports (f) : (s.onOutbox f).ports = s.ports := rfl
@[simp] theorem State.onOutbox_store (f) : (s.onOutbox f).store = s.store := rfl

@[simp] theorem State.onEngine_pending (f) : (s.onEngine f).pending = s.pending := rfl
@[simp] theorem State.onEngine_outbox (f) : (s.onEngine f).outbox = s.outbox := rfl
@[simp] theorem State.onEngine_uptimeMs (f) : (s.onEngine f).uptimeMs = s.uptimeMs := rfl
@[simp] theorem State.onEngine_expiries (f) : (s.onEngine f).expiries = s.expiries := rfl
@[simp] theorem State.onEngine_engine (f) : (s.onEngine f).engine = f s.engine := rfl
@[simp] theorem State.onEngine_conflicts (f) : (s.onEngine f).conflicts = s.conflicts := rfl
@[simp] theorem State.onEngine_seq (f) : (s.onEngine f).seq = s.seq := rfl
@[simp] theorem State.onEngine_lamps (f) : (s.onEngine f).lamps = s.lamps := rfl
@[simp] theorem State.onEngine_cable (f) : (s.onEngine f).cable = s.cable := rfl
@[simp] theorem State.onEngine_quals (f) : (s.onEngine f).quals = s.quals := rfl
@[simp] theorem State.onEngine_faults (f) : (s.onEngine f).faults = s.faults := rfl
@[simp] theorem State.onEngine_history (f) : (s.onEngine f).history = s.history := rfl
@[simp] theorem State.onEngine_ports (f) : (s.onEngine f).ports = s.ports := rfl
@[simp] theorem State.onEngine_store (f) : (s.onEngine f).store = s.store := rfl

@[simp] theorem State.onConflicts_pending (f) : (s.onConflicts f).pending = s.pending := rfl
@[simp] theorem State.onConflicts_outbox (f) : (s.onConflicts f).outbox = s.outbox := rfl
@[simp] theorem State.onConflicts_uptimeMs (f) : (s.onConflicts f).uptimeMs = s.uptimeMs := rfl
@[simp] theorem State.onConflicts_expiries (f) : (s.onConflicts f).expiries = s.expiries := rfl
@[simp] theorem State.onConflicts_engine (f) : (s.onConflicts f).engine = s.engine := rfl
@[simp] theorem State.onConflicts_conflicts (f) : (s.onConflicts f).conflicts = f s.conflicts := rfl
@[simp] theorem State.onConflicts_seq (f) : (s.onConflicts f).seq = s.seq := rfl
@[simp] theorem State.onConflicts_lamps (f) : (s.onConflicts f).lamps = s.lamps := rfl
@[simp] theorem State.onConflicts_cable (f) : (s.onConflicts f).cable = s.cable := rfl
@[simp] theorem State.onConflicts_quals (f) : (s.onConflicts f).quals = s.quals := rfl
@[simp] theorem State.onConflicts_faults (f) : (s.onConflicts f).faults = s.faults := rfl
@[simp] theorem State.onConflicts_history (f) : (s.onConflicts f).history = s.history := rfl
@[simp] theorem State.onConflicts_ports (f) : (s.onConflicts f).ports = s.ports := rfl
@[simp] theorem State.onConflicts_store (f) : (s.onConflicts f).store = s.store := rfl

@[simp] theorem State.onSeq_pending (f) : (s.onSeq f).pending = s.pending := rfl
@[simp] theorem State.onSeq_outbox (f) : (s.onSeq f).outbox = s.outbox := rfl
@[simp] theorem State.onSeq_uptimeMs (f) : (s.onSeq f).uptimeMs = s.uptimeMs := rfl
@[simp] theorem State.onSeq_expiries (f) : (s.onSeq f).expiries = s.expiries := rfl
@[simp] theorem State.onSeq_engine (f) : (s.onSeq f).engine = s.engine := rfl
@[simp] theorem State.onSeq_conflicts (f) : (s.onSeq f).conflicts = s.conflicts := rfl
@[simp] theorem State.onSeq_seq (f) : (s.onSeq f).seq = f s.seq := rfl
@[simp] theorem State.onSeq_lamps (f) : (s.onSeq f).lamps = s.lamps := rfl
@[simp] theorem State.onSeq_cable (f) : (s.onSeq f).cable = s.cable := rfl
@[simp] theorem State.onSeq_quals (f) : (s.onSeq f).quals = s.quals := rfl
@[simp] theorem State.onSeq_faults (f) : (s.onSeq f).faults = s.faults := rfl
@[simp] theorem State.onSeq_history (f) : (s.onSeq f).history = s.history := rfl
@[simp] theorem State.onSeq_ports (f) : (s.onSeq f).ports = s.ports := rfl
@[simp] theorem State.onSeq_store (f) : (s.onSeq f).store = s.store := rfl

@[simp] theorem State.onLamps_pending (f) : (s.onLamps f).pending = s.pending := rfl
@[simp] theorem State.onLamps_outbox (f) : (s.onLamps f).outbox = s.outbox := rfl
@[simp] theorem State.onLamps_uptimeMs (f) : (s.onLamps f).uptimeMs = s.uptimeMs := rfl
@[simp] theorem State.onLamps_expiries (f) : (s.onLamps f).expiries = s.expiries := rfl
@[simp] theorem State.onLamps_engine (f) : (s.onLamps f).engine = s.engine := rfl
@[simp] theorem State.onLamps_conflicts (f) : (s.onLamps f).conflicts = s.conflicts := rfl
@[simp] theorem State.onLamps_seq (f) : (s.onLamps f).seq = s.seq := rfl
@[simp] theorem State.onLamps_lamps (f) : (s.onLamps f).lamps = f s.lamps := rfl
@[simp] theorem State.onLamps_cable (f) : (s.onLamps f).cable = s.cable := rfl
@[simp] theorem State.onLamps_quals (f) : (s.onLamps f).quals = s.quals := rfl
@[simp] theorem State.onLamps_faults (f) : (s.onLamps f).faults = s.faults := rfl
@[simp] theorem State.onLamps_history (f) : (s.onLamps f).history = s.history := rfl
@[simp] theorem State.onLamps_ports (f) : (s.onLamps f).ports = s.ports := rfl
@[simp] theorem State.onLamps_store (f) : (s.onLamps f).store = s.store := rfl

@[simp] theorem State.onCable_pending (f) : (s.onCable f).pending = s.pending := rfl
@[simp] theorem State.onCable_outbox (f) : (s.onCable f).outbox = s.outbox := rfl
@[simp] theorem State.onCable_uptimeMs (f) : (s.onCable f).uptimeMs = s.uptimeMs := rfl
@[simp] theorem State.onCable_expiries (f) : (s.onCable f).expiries = s.expiries := rfl
@[simp] theorem State.onCable_engine (f) : (s.onCable f).engine = s.engine := rfl
@[simp] theorem State.onCable_conflicts (f) : (s.onCable f).conflicts = s.conflicts := rfl
@[simp] theorem State.onCable_seq (f) : (s.onCable f).seq = s.seq := rfl
@[simp] theorem State.onCable_lamps (f) : (s.onCable f).lamps = s.lamps := rfl
@[simp] theorem State.onCable_cable (f) : (s.onCable f).cable = f s.cable := rfl
@[simp] theorem State.onCable_quals (f) : (s.onCable f).quals = s.quals := rfl
@[simp] theorem State.onCable_faults (f) : (s.onCable f).faults = s.faults := rfl
@[simp] theorem State.onCable_history (f) : (s.onCable f).history = s.history := rfl
@[simp] theorem State.onCable_ports (f) : (s.onCable f).ports = s.ports := rfl
@[simp] theorem State.onCable_store (f) : (s.onCable f).store = s.store := rfl

@[simp] theorem State.onQuals_pending (f) : (s.onQuals f).pending = s.pending := rfl
@[simp] theorem State.onQuals_outbox (f) : (s.onQuals f).outbox = s.outbox := rfl
@[simp] theorem State.onQuals_uptimeMs (f) : (s.onQuals f).uptimeMs = s.uptimeMs := rfl
@[simp] theorem State.onQuals_expiries (f) : (s.onQuals f).expiries = s.expiries := rfl
@[simp] theorem State.onQuals_engine (f) : (s.onQuals f).engine = s.engine := rfl
@[simp] theorem State.onQuals_conflicts (f) : (s.onQuals f).conflicts = s.conflicts := rfl
@[simp] theorem State.onQuals_seq (f) : (s.onQuals f).seq = s.seq := rfl
@[simp] theorem State.onQuals_lamps (f) : (s.onQuals f).lamps = s.lamps := rfl
@[simp] theorem State.onQuals_cable (f) : (s.onQuals f).cable = s.cable := rfl
@[simp] theorem State.onQuals_quals (f) : (s.onQuals f).quals = f s.quals := rfl
@[simp] theorem State.onQuals_faults (f) : (s.onQuals f).faults = s.faults := rfl
@[simp] theorem State.onQuals_history (f) : (s.onQuals f).history = s.history := rfl
@[simp] theorem State.onQuals_ports (f) : (s.onQuals f).ports = s.ports := rfl
@[simp] theorem State.onQuals_store (f) : (s.onQuals f).store = s.store := rfl

@[simp] theorem State.onFaults_pending (f) : (s.onFaults f).pending = s.pending := rfl
@[simp] theorem State.onFaults_outbox (f) : (s.onFaults f).outbox = s.outbox := rfl
@[simp] theorem State.onFaults_uptimeMs (f) : (s.onFaults f).uptimeMs = s.uptimeMs := rfl
@[simp] theorem State.onFaults_expiries (f) : (s.onFaults f).expiries = s.expiries := rfl
@[simp] theorem State.onFaults_engine (f) : (s.onFaults f).engine = s.engine := rfl
@[simp] theorem State.onFaults_conflicts (f) : (s.onFaults f).conflicts = s.conflicts := rfl
@[simp] theorem State.onFaults_seq (f) : (s.onFaults f).seq = s.seq := rfl
@[simp] theorem State.onFaults_lamps (f) : (s.onFaults f).lamps = s.lamps := rfl
@[simp] theorem State.onFaults_cable (f) : (s.onFaults f).cable = s.cable := rfl
@[simp] theorem State.onFaults_quals (f) : (s.onFaults f).quals = s.quals := rfl
@[simp] theorem State.onFaults_faults (f) : (s.onFaults f).faults = f s.faults := rfl
@[simp] theorem State.onFaults_history (f) : (s.onFaults f).history = s.history := rfl
@[simp] theorem State.onFaults_ports (f) : (s.onFaults f).ports = s.ports := rfl
@[simp] theorem State.onFaults_store (f) : (s.onFaults f).store = s.store := rfl

@[simp] theorem State.onHistory_pending (f) : (s.onHistory f).pending = s.pending := rfl
@[simp] theorem State.onHistory_outbox (f) : (s.onHistory f).outbox = s.outbox := rfl
@[simp] theorem State.onHistory_uptimeMs (f) : (s.onHistory f).uptimeMs = s.uptimeMs := rfl
@[simp] theorem State.onHistory_expiries (f) : (s.onHistory f).expiries = s.expiries := rfl
@[simp] theorem State.onHistory_engine (f) : (s.onHistory f).engine = s.engine := rfl
@[simp] theorem State.onHistory_conflicts (f) : (s.onHistory f).conflicts = s.conflicts := rfl
@[simp] theorem State.onHistory_seq (f) : (s.onHistory f).seq = s.seq := rfl
@[simp] theorem State.onHistory_lamps (f) : (s.onHistory f).lamps = s.lamps := rfl
@[simp] theorem State.onHistory_cable (f) : (s.onHistory f).cable = s.cable := rfl
@[simp] theorem State.onHistory_quals (f) : (s.onHistory f).quals = s.quals := rfl
@[simp] theorem State.onHistory_faults (f) : (s.onHistory f).faults = s.faults := rfl
@[simp] theorem State.onHistory_history (f) : (s.onHistory f).history = f s.history := rfl
@[simp] theorem State.onHistory_ports (f) : (s.onHistory f).ports = s.ports := rfl
@[simp] theorem State.onHistory_store (f) : (s.onHistory f).store = s.store := rfl

@[simp] theorem State.onPorts_pending (f) : (s.onPorts f).pending = s.pending := rfl
@[simp] theorem State.onPorts_outbox (f) : (s.onPorts f).outbox = s.outbox := rfl
@[simp] theorem State.onPorts_uptimeMs (f) : (s.onPorts f).uptimeMs = s.uptimeMs := rfl
@[simp] theorem State.onPorts_expiries (f) : (s.onPorts f).expiries = s.expiries := rfl
@[simp] theorem State.onPorts_engine (f) : (s.onPorts f).engine = s.engine := rfl
@[simp] theorem State.onPorts_conflicts (f) : (s.onPorts f).conflicts = s.conflicts := rfl
@[simp] theorem State.onPorts_seq (f) : (s.onPorts f).seq = s.seq := rfl
@[simp] theorem State.onPorts_lamps (f) : (s.onPorts f).lamps = s.lamps := rfl
@[simp] theorem State.onPorts_cable (f) : (s.onPorts f).cable = s.cable := rfl
@[simp] theorem State.onPorts_quals (f) : (s.onPorts f).quals = s.quals := rfl
@[simp] theorem State.onPorts_faults (f) : (s.onPorts f).faults = s.faults := rfl
@[simp] theorem State.onPorts_history (f) : (s.onPorts f).history = s.history := rfl
@[simp] theorem State.onPorts_ports (f) : (s.onPorts f).ports = f s.ports := rfl
@[simp] theorem State.onPorts_store (f) : (s.onPorts f).store = s.store := rfl

@[simp] theorem State.onStore_pending (f) : (s.onStore f).pending = s.pending := rfl
@[simp] theorem State.onStore_outbox (f) : (s.onStore f).outbox = s.outbox := rfl
@[simp] theorem State.onStore_uptimeMs (f) : (s.onStore f).uptimeMs = s.uptimeMs := rfl
@[simp] theorem State.onStore_expiries (f) : (s.onStore f).expiries = s.expiries := rfl
@[simp] theorem State.onStore_engine (f) : (s.onStore f).engine = s.engine := rfl
@[simp] theorem State.onStore_conflicts (f) : (s.onStore f).conflicts = s.conflicts := rfl
@[simp] theorem State.onStore_seq (f) : (s.onStore f).seq = s.seq := rfl
@[simp] theorem State.onStore_lamps (f) : (s.onStore f).lamps = s.lamps := rfl
@[simp] theorem State.onStore_cable (f) : (s.onStore f).cable = s.cable := rfl
@[simp] theorem State.onStore_quals (f) : (s.onStore f).quals = s.quals := rfl
@[simp] theorem State.onStore_faults (f) : (s.onStore f).faults = s.faults := rfl
@[simp] theorem State.onStore_history (f) : (s.onStore f).history = s.history := rfl
@[simp] theorem State.onStore_ports (f) : (s.onStore f).ports = s.ports := rfl
@[simp] theorem State.onStore_store (f) : (s.onStore f).store = f s.store := rfl

@[simp] theorem State.send_pending (m : List Instr) : (s.send m).pending = s.pending := rfl
@[simp] theorem State.send_outbox (m : List Instr) : (s.send m).outbox = s.outbox ++ m := rfl
@[simp] theorem State.send_uptimeMs (m : List Instr) : (s.send m).uptimeMs = s.uptimeMs := rfl
@[simp] theorem State.send_expiries (m : List Instr) : (s.send m).expiries = s.expiries := rfl
@[simp] theorem State.send_engine (m : List Instr) : (s.send m).engine = s.engine := rfl
@[simp] theorem State.send_conflicts (m : List Instr) : (s.send m).conflicts = s.conflicts := rfl
@[simp] theorem State.send_seq (m : List Instr) : (s.send m).seq = s.seq := rfl
@[simp] theorem State.send_lamps (m : List Instr) : (s.send m).lamps = s.lamps := rfl
@[simp] theorem State.send_cable (m : List Instr) : (s.send m).cable = s.cable := rfl
@[simp] theorem State.send_quals (m : List Instr) : (s.send m).quals = s.quals := rfl
@[simp] theorem State.send_faults (m : List Instr) : (s.send m).faults = s.faults := rfl
@[simp] theorem State.send_history (m : List Instr) : (s.send m).history = s.history := rfl
@[simp] theorem State.send_ports (m : List Instr) : (s.send m).ports = s.ports := rfl
@[simp] theorem State.send_store (m : List Instr) : (s.send m).store = s.store := rfl

@[simp] theorem State.taking_pending (m : Instr) : (s.taking m).pending = s.pending := rfl
@[simp] theorem State.taking_outbox (m : Instr) : (s.taking m).outbox = s.outbox.erase m := rfl
@[simp] theorem State.taking_uptimeMs (m : Instr) : (s.taking m).uptimeMs = s.uptimeMs := rfl
@[simp] theorem State.taking_expiries (m : Instr) : (s.taking m).expiries = s.expiries := rfl
@[simp] theorem State.taking_engine (m : Instr) : (s.taking m).engine = s.engine := rfl
@[simp] theorem State.taking_conflicts (m : Instr) : (s.taking m).conflicts = s.conflicts := rfl
@[simp] theorem State.taking_seq (m : Instr) : (s.taking m).seq = s.seq := rfl
@[simp] theorem State.taking_lamps (m : Instr) : (s.taking m).lamps = s.lamps := rfl
@[simp] theorem State.taking_cable (m : Instr) : (s.taking m).cable = s.cable := rfl
@[simp] theorem State.taking_quals (m : Instr) : (s.taking m).quals = s.quals := rfl
@[simp] theorem State.taking_faults (m : Instr) : (s.taking m).faults = s.faults := rfl
@[simp] theorem State.taking_history (m : Instr) : (s.taking m).history = s.history := rfl
@[simp] theorem State.taking_ports (m : Instr) : (s.taking m).ports = s.ports := rfl
@[simp] theorem State.taking_store (m : Instr) : (s.taking m).store = s.store := rfl

@[simp] theorem State.raise_pending (k : FaultKind) (x : Subject) : (s.raise k x).pending = s.pending := rfl
@[simp] theorem State.raise_outbox (k : FaultKind) (x : Subject) : (s.raise k x).outbox = s.outbox := rfl
@[simp] theorem State.raise_uptimeMs (k : FaultKind) (x : Subject) : (s.raise k x).uptimeMs = s.uptimeMs := rfl
@[simp] theorem State.raise_expiries (k : FaultKind) (x : Subject) : (s.raise k x).expiries = s.expiries := rfl
@[simp] theorem State.raise_engine (k : FaultKind) (x : Subject) : (s.raise k x).engine = s.engine := rfl
@[simp] theorem State.raise_conflicts (k : FaultKind) (x : Subject) : (s.raise k x).conflicts = s.conflicts := rfl
@[simp] theorem State.raise_seq (k : FaultKind) (x : Subject) : (s.raise k x).seq = s.seq := rfl
@[simp] theorem State.raise_lamps (k : FaultKind) (x : Subject) : (s.raise k x).lamps = s.lamps := rfl
@[simp] theorem State.raise_cable (k : FaultKind) (x : Subject) : (s.raise k x).cable = s.cable := rfl
@[simp] theorem State.raise_quals (k : FaultKind) (x : Subject) : (s.raise k x).quals = s.quals := rfl
@[simp] theorem State.raise_faults (k : FaultKind) (x : Subject) : (s.raise k x).faults = FaultTable.raise k x s.nowSec s.faults := rfl
@[simp] theorem State.raise_history (k : FaultKind) (x : Subject) : (s.raise k x).history = s.history := rfl
@[simp] theorem State.raise_ports (k : FaultKind) (x : Subject) : (s.raise k x).ports = s.ports := rfl
@[simp] theorem State.raise_store (k : FaultKind) (x : Subject) : (s.raise k x).store = s.store := rfl

@[simp] theorem State.clear_pending (k : FaultKind) (x : Subject) : (s.clear k x).pending = s.pending := rfl
@[simp] theorem State.clear_outbox (k : FaultKind) (x : Subject) : (s.clear k x).outbox = s.outbox := rfl
@[simp] theorem State.clear_uptimeMs (k : FaultKind) (x : Subject) : (s.clear k x).uptimeMs = s.uptimeMs := rfl
@[simp] theorem State.clear_expiries (k : FaultKind) (x : Subject) : (s.clear k x).expiries = s.expiries := rfl
@[simp] theorem State.clear_engine (k : FaultKind) (x : Subject) : (s.clear k x).engine = s.engine := rfl
@[simp] theorem State.clear_conflicts (k : FaultKind) (x : Subject) : (s.clear k x).conflicts = s.conflicts := rfl
@[simp] theorem State.clear_seq (k : FaultKind) (x : Subject) : (s.clear k x).seq = s.seq := rfl
@[simp] theorem State.clear_lamps (k : FaultKind) (x : Subject) : (s.clear k x).lamps = s.lamps := rfl
@[simp] theorem State.clear_cable (k : FaultKind) (x : Subject) : (s.clear k x).cable = s.cable := rfl
@[simp] theorem State.clear_quals (k : FaultKind) (x : Subject) : (s.clear k x).quals = s.quals := rfl
@[simp] theorem State.clear_faults (k : FaultKind) (x : Subject) : (s.clear k x).faults = FaultTable.clear k x s.faults := rfl
@[simp] theorem State.clear_history (k : FaultKind) (x : Subject) : (s.clear k x).history = s.history := rfl
@[simp] theorem State.clear_ports (k : FaultKind) (x : Subject) : (s.clear k x).ports = s.ports := rfl
@[simp] theorem State.clear_store (k : FaultKind) (x : Subject) : (s.clear k x).store = s.store := rfl

@[simp] theorem State.record_pending (e : HistoryItem) : (s.record e).pending = s.pending := rfl
@[simp] theorem State.record_outbox (e : HistoryItem) : (s.record e).outbox = s.outbox := rfl
@[simp] theorem State.record_uptimeMs (e : HistoryItem) : (s.record e).uptimeMs = s.uptimeMs := rfl
@[simp] theorem State.record_expiries (e : HistoryItem) : (s.record e).expiries = s.expiries := rfl
@[simp] theorem State.record_engine (e : HistoryItem) : (s.record e).engine = s.engine := rfl
@[simp] theorem State.record_conflicts (e : HistoryItem) : (s.record e).conflicts = s.conflicts := rfl
@[simp] theorem State.record_seq (e : HistoryItem) : (s.record e).seq = s.seq := rfl
@[simp] theorem State.record_lamps (e : HistoryItem) : (s.record e).lamps = s.lamps := rfl
@[simp] theorem State.record_cable (e : HistoryItem) : (s.record e).cable = s.cable := rfl
@[simp] theorem State.record_quals (e : HistoryItem) : (s.record e).quals = s.quals := rfl
@[simp] theorem State.record_faults (e : HistoryItem) : (s.record e).faults = s.faults := rfl
@[simp] theorem State.record_history (e : HistoryItem) : (s.record e).history = History.take s.nowSec e s.history := rfl
@[simp] theorem State.record_ports (e : HistoryItem) : (s.record e).ports = s.ports := rfl
@[simp] theorem State.record_store (e : HistoryItem) : (s.record e).store = s.store := rfl

@[simp] theorem State.respond_pending (p : Port) (n : Nat) (a : Answer) : (s.respond p n a).pending = s.pending := rfl
@[simp] theorem State.respond_outbox (p : Port) (n : Nat) (a : Answer) : (s.respond p n a).outbox = s.outbox := rfl
@[simp] theorem State.respond_uptimeMs (p : Port) (n : Nat) (a : Answer) : (s.respond p n a).uptimeMs = s.uptimeMs := rfl
@[simp] theorem State.respond_expiries (p : Port) (n : Nat) (a : Answer) : (s.respond p n a).expiries = s.expiries := rfl
@[simp] theorem State.respond_engine (p : Port) (n : Nat) (a : Answer) : (s.respond p n a).engine = s.engine := rfl
@[simp] theorem State.respond_conflicts (p : Port) (n : Nat) (a : Answer) : (s.respond p n a).conflicts = s.conflicts := rfl
@[simp] theorem State.respond_seq (p : Port) (n : Nat) (a : Answer) : (s.respond p n a).seq = s.seq := rfl
@[simp] theorem State.respond_lamps (p : Port) (n : Nat) (a : Answer) : (s.respond p n a).lamps = s.lamps := rfl
@[simp] theorem State.respond_cable (p : Port) (n : Nat) (a : Answer) : (s.respond p n a).cable = s.cable := rfl
@[simp] theorem State.respond_quals (p : Port) (n : Nat) (a : Answer) : (s.respond p n a).quals = s.quals := rfl
@[simp] theorem State.respond_faults (p : Port) (n : Nat) (a : Answer) : (s.respond p n a).faults = s.faults := rfl
@[simp] theorem State.respond_history (p : Port) (n : Nat) (a : Answer) : (s.respond p n a).history = s.history := rfl
@[simp] theorem State.respond_ports (p : Port) (n : Nat) (a : Answer) : (s.respond p n a).ports = s.ports.put p (PortRecord.respond (BitVec.ofNat 8 n) a (s.ports.at p)) := rfl
@[simp] theorem State.respond_store (p : Port) (n : Nat) (a : Answer) : (s.respond p n a).store = s.store := rfl

@[simp] theorem PerPort.at_put_self {α : Type} (v : PerPort α) (p : Port) (x : α) : (v.put p x).at p = x := by
  cases p <;> rfl

@[simp] theorem PerPort.at_put_other {α : Type} (v : PerPort α) (p q : Port) (x : α) (h : q ≠ p) :
    (v.put p x).at q = v.at q := by
  cases p <;> cases q <;> first | rfl | exact absurd rfl h

end Sys2Proof.Machine
end

