-- ==== Sys2Proof/Laws/Ops.lean ====
section
/-! SUPPORT. What each shared operation can do, said once: answering a request, taking an event, the fault table's raise
and clear, a history entry, the fields that the cable unit's, the engine's and the sequencer's operations leave alone, the
deferred flag, minimum red, the phases of a cable test, the time and the image of the store, and what the Lamp Proving
Unit selects and has seen. -/

namespace Sys2Proof.Machine

/-! ## Commands -/

/-- No command stops the part. -/
theorem exec_next (i : Instr) (s : State) : ∃ t, exec i s = .next t := by cases i <;> exact ⟨_, rfl⟩

/-- A request that its port may make is taken by its block and answered. -/
theorem serve_permitted {code : Nat} {p : Port} {s : State} {body : State → State × Answer} (h : s.loading = false)
    (hp : permitted code p = true) : serve code p s body = (body s).1.respond p code (body s).2 := by
  simp [serve, h, hp]

/-- A request that its port may not make is answered NOT_PERMITTED. -/
theorem serve_not_permitted {code : Nat} {p : Port} {s : State} {body : State → State × Answer} (h : s.loading = false)
    (hp : permitted code p = false) : serve code p s body = s.refusedWith p code .notPermitted := by
  simp [serve, h, hp, State.refusedWith]

/-- Nothing is served while the image is loaded. -/
theorem serve_loading {code : Nat} {p : Port} {s : State} {body : State → State × Answer} (h : s.loading = true) :
    serve code p s body = s := by
  simp [serve, h]

/-- A property of states that the body and every response keep is kept by serving. -/
theorem serve_keeps {P : State → Prop} {code : Nat} {p : Port} {s : State} {body : State → State × Answer} (hs : P s)
    (hb : P (body s).1) (hr : ∀ t a, P t → P (t.respond p code a)) : P (serve code p s body) := by
  unfold serve
  split
  · exact hs
  · split
    · exact hr _ _ hb
    · exact hr _ _ hs

/-- An event is taken once the image is loaded. -/
theorem event_taken {s : State} {f : State → State} (h : s.loading = false) : event s f = f s := by simp [event, h]

/-- A property of states that an event's effect keeps is kept by the event. -/
theorem event_keeps {P : State → Prop} {s : State} {f : State → State} (hs : P s) (hf : P (f s)) : P (event s f) := by
  unfold event
  split
  · exact hs
  · exact hf

/-- What building a response does to a port record (R169). -/
theorem respond_record (code : Byte) (a : Answer) (r : PortRecord) :
    (r.respond code a).state = .responding ∧ (r.respond code a).overrun = false ∧
    (r.respond code a).response =
      some { code := code, status := a.status, overrun := r.overrun,
             payload := if a.status = .ok then a.payload else [] } := ⟨rfl, rfl, rfl⟩

/-! ## Fault table -/

/-- Everything a raise can do (R157, R159). -/
theorem raise_cases (k : FaultKind) (x : Subject) (now : Clock) (t : FaultTable) :
    (t.records.any (FaultRecord.hasKey k x) = true ∧ (t.raise k x now).overflow = t.overflow ∧
      (t.raise k x now).records =
        t.records.map fun r => if FaultRecord.hasKey k x r then r.raised now else r) ∨
    (t.records.any (FaultRecord.hasKey k x) = false ∧ t.records.length < 32 ∧
      (t.raise k x now).overflow = t.overflow ∧
      (t.raise k x now).records = t.records ++ [FaultRecord.new k x now]) ∨
    (t.records.any (FaultRecord.hasKey k x) = false ∧ 32 ≤ t.records.length ∧
      t.records.any FaultRecord.evictable = true ∧ (t.raise k x now).overflow = t.overflow ∧
      (t.raise k x now).records = t.records.eraseP FaultRecord.evictable ++ [FaultRecord.new k x now]) ∨
    (t.records.any (FaultRecord.hasKey k x) = false ∧ 32 ≤ t.records.length ∧
      t.records.any FaultRecord.evictable = false ∧ (t.raise k x now).records = t.records ∧
      (t.raise k x now).overflow = saturate 255 (t.overflow + 1)) := by
  unfold FaultTable.raise
  split
  · next h => exact .inl ⟨h, rfl, rfl⟩
  · next h =>
    have h : t.records.any (FaultRecord.hasKey k x) = false := by simpa using h
    split
    · next hl => exact .inr (.inl ⟨h, hl, rfl, rfl⟩)
    · next hl =>
      split
      · next he => exact .inr (.inr (.inl ⟨h, by omega, he, rfl, rfl⟩))
      · next he => exact .inr (.inr (.inr ⟨h, by omega, by simpa using he, rfl, rfl⟩))

/-- A clear only changes records with its key (R158). -/
theorem clear_records (k : FaultKind) (x : Subject) (t : FaultTable) :
    (t.clear k x).records =
      t.records.filterMap fun r => if FaultRecord.hasKey k x r then r.cleared else some r := rfl

/-- The FAULT line follows the records and the overflow count in whatever the table makes (R162). -/
@[simp] theorem make_line (records : List FaultRecord) (overflow : Nat) :
    (FaultTable.make records overflow).line = faultLine records overflow := rfl

/-- A raise leaves the line as its records call for (R162). -/
theorem raise_line (k : FaultKind) (x : Subject) (now : Clock) (t : FaultTable) :
    (t.raise k x now).line = faultLine (t.raise k x now).records (t.raise k x now).overflow := by
  unfold FaultTable.raise
  repeat' split
  all_goals rfl

/-- A clear leaves the line as its records call for (R162). -/
theorem clear_line (k : FaultKind) (x : Subject) (t : FaultTable) :
    (t.clear k x).line = faultLine (t.clear k x).records (t.clear k x).overflow := rfl

/-- Raises and clears change the fault table only. -/
theorem actAll_only (actions : List FaultAction) (s : State) :
    s.actAll actions = { s with faults := (s.actAll actions).faults } := by
  induction actions generalizing s with
  | nil => rfl
  | cons a rest ih =>
    have h : s.act a = { s with faults := (s.act a).faults } := by cases a <;> rfl
    show (s.act a).actAll rest = { s with faults := ((s.act a).actAll rest).faults }
    conv => lhs; rw [ih]
    rw [h]

/-! ## Cable Test Unit -/

/-- A selection changes the cable unit only (R137). -/
theorem selectWith_only (elig : CoreId → Bool) (s : State) :
    s.selectWith elig = { s with cable := (s.selectWith elig).cable } := rfl

/-- An energise notice changes the cable unit only (R141). -/
theorem notice_only (elig : CoreId → Bool) (c : CoreId) (s : State) :
    s.notice elig c = { s with cable := (s.notice elig c).cable } := by
  unfold State.notice
  split
  · split <;> rfl
  · rfl

/-- A list of energise notices changes the cable unit only. -/
theorem notices_only (elig : CoreId → Bool) (cores : List CoreId) (s : State) :
    cores.foldl (State.notice elig) s = { s with cable := (cores.foldl (State.notice elig) s).cable } := by
  induction cores generalizing s with
  | nil => rfl
  | cons c rest ih =>
    simp only [List.foldl_cons]
    conv => lhs; rw [ih]
    rw [notice_only elig c s]

/-- A declaration changes the cable unit only (R136). -/
theorem declared_only (c : CoreId) (origin : QueueOrigin) (s : State) :
    s.declared c origin = { s with cable := (s.declared c origin).cable } := by
  unfold State.declared
  split <;> rfl

/-! ## Signal Group Engine and Plan Sequencer -/

/-- The energise notices of an event change the cable unit only (R7, R141). -/
theorem notified_only (s : State) : s.notified = { s with cable := s.notified.cable } := notices_only _ _ _

/-- Bringing the outputs up to date changes the aspects, the cable unit and the messages in transit (R5 to R7). -/
theorem present_only (s : State) :
    s.present =
      { s with
        engine := { s.engine with aspects := s.wantedOutputs }
        cable := s.notified.cable
        outbox := s.outbox ++ outputMessages s.engine.aspects s.wantedOutputs } := by
  unfold State.present
  generalize s.wantedOutputs = wanted
  generalize h : s.notified = t
  obtain ⟨cable, ht⟩ : ∃ cable, t = { s with cable := cable } := ⟨_, h ▸ notified_only s⟩
  subst ht
  rfl

/-- The commands wanted do not depend on what is presented. -/
@[simp] theorem present_wanted (s : State) (c : CoreId) : s.present.wantedCommand c = s.wantedCommand c := by
  rw [present_only]
  rfl

/-- The recomputation of inhibition changes the group records only (R57 to R59). -/
theorem recomputeInhibition_only (s : State) :
    s.recomputeInhibition =
      { s with engine := { s.engine with groups := s.recomputeInhibition.engine.groups } } := rfl

/-- The revalidation changes plans' validity, entries' enabled flags and the group records only (R47). -/
theorem revalidate_only (s : State) :
    s.revalidate =
      { s with
        engine := { s.engine with groups := s.revalidate.engine.groups }
        seq := { s.seq with plans := s.revalidate.seq.plans, substs := s.revalidate.seq.substs } } := rfl

/-- The contactor's line or feedback changes the engine and the CONTACTOR fault only (R18). -/
theorem contactorChange_only (f : Engine → Engine) (s : State) :
    s.contactorChange f = { s with engine := (s.contactorChange f).engine, faults := (s.contactorChange f).faults } := by
  by_cases h : (s.engine.agrees && !(s.onEngine f).engine.agrees) = true
  · simp only [State.contactorChange, h, if_true]
    rfl
  · by_cases h' : (!s.engine.agrees && (s.onEngine f).engine.agrees) = true
    · simp only [State.contactorChange, h, h', if_true]
      rfl
    · simp only [State.contactorChange, h, h']
      rfl

/-- The issue of a stage request changes the sequencer and sends one message (R70). -/
theorem issueRequest_only (k : Nat) (s : State) :
    s.issueRequest k =
      { s with seq := s.seq.issue k, outbox := s.outbox ++ [.stageRequest (s.seq.issue k).request] } := rfl

/-! ## Minimum red and the phases of a cable test -/

/-- When a group's minimum red has run (R52, R60). -/
theorem minRedRun_iff (now : Clock) (g : Group) : g.minRedRun now = true ↔
    g.minRed ≤ g.timeInState ∨ g.cutShort = true ∧ g.minRed ≤ elapsed now g.lastGreenEnd := by
  simp [Group.minRedRun]

/-- Before its 200 ms have run neither event ends a phase (R138). -/
theorem phase_runs_on {s : State} (x : Int) (h : ∀ f, s.cable.flight = some f → f.phaseOver s.nowMs = false) :
    s.positiveEnd x = s ∧ s.negativeEnd x = s := by
  unfold State.positiveEnd State.negativeEnd
  cases hf : s.cable.flight with
  | none => exact ⟨rfl, rfl⟩
  | some f => simp [h f hf]

/-! ## Scanning -/

/-- A slot start selects the slot's row (R98 part 3). -/
@[simp] theorem startSlot_rowSelect (slot : Nat) (s : State) : (s.startSlot slot).lamps.rowSelect = rowOf slot := rfl

@[simp] theorem startSlot_slotIndex (slot : Nat) (s : State) : (s.startSlot slot).lamps.slotIndex = slot := rfl

/-- A slot's end leaves the slot index and the row select alone (R98 part 1). -/
theorem endSlot_only (readings : Vector Reading 16) (u : LampUnit) :
    u.endSlot readings = { u with scan := (u.endSlot readings).scan } := by
  unfold LampUnit.endSlot
  by_cases h : u.slotIndex = 0
  · simp only [if_pos h]
  · simp only [if_neg h]

@[simp] theorem emptyFrame_rowSelect (u : LampUnit) : u.emptyFrame.rowSelect = u.rowSelect := by
  simp only [LampUnit.emptyFrame]

@[simp] theorem suspend_rowSelect (u : LampUnit) : u.suspend.rowSelect = .R := by
  simp only [LampUnit.suspend, emptyFrame_rowSelect]

@[simp] theorem changeMode_rowSelect (m : ScanMode) (u : LampUnit) : (u.changeMode m).rowSelect = u.rowSelect := by
  simp only [LampUnit.changeMode, emptyFrame_rowSelect]

/-- With no change of level on its way the unit has seen an aspect's level as it is. -/
theorem seenLevel_of_none {s : State} {c : CoreId} (h : ∀ b, Instr.aspectLevelChange c b ∉ s.outbox) :
    s.seenLevel c = s.engine.aspects[c].lit := by
  unfold State.seenLevel
  rw [List.findSome?_eq_none_iff.mpr]
  intro m hm
  split
  · rename_i d lit
    exact if_neg fun (hd : d = c) => h lit (hd ▸ hm)
  · rfl

/-- With no change of the dim line on its way the unit has seen the line as it is. -/
theorem seenDim_of_none {s : State} (h : ∀ b, Instr.dimChange b ∉ s.outbox) : s.seenDim = s.engine.dimOn := by
  unfold State.seenDim
  rw [List.findSome?_eq_none_iff.mpr]
  intro m hm
  split
  · exact absurd hm (h _)
  · rfl

/-! ## The deferred flag -/

/-- A cycle timer that has not moved has not come round, so HELD keeps the deferred flag (R72, R76). -/
theorem roundAgain_self (q : Sequencer) : q.roundAgain q.cycleTimer = false := by simp [Sequencer.roundAgain]

/-- The test of deferral clears the deferred flag and nothing else (R68, R76). -/
theorem testDeferral_cases (before : Nat) (q : Sequencer) :
    q.testDeferral before = { q with deferred := q.deferred && !q.roundAgain before } := by
  unfold Sequencer.testDeferral
  split
  · rename_i h
    simp [(Bool.and_eq_true_iff.mp h).2]
  · rename_i h
    rw [show (q.deferred && !q.roundAgain before) = q.deferred by
      revert h; cases q.deferred <;> cases q.roundAgain before <;> simp]

/-! ## The store and the image -/

/-- Everything that crystal time does to the store (R174 to R176; log 23). -/
theorem store_pass_cases (ms : Nat) (r : Store) :
    r.state = .idle ∧ r.pass ms = r ∨ r.state = .loading ∧ r.pass ms = { r with timer := r.timer + ms } ∨
    r.state = .saving ∧ r.pass ms =
      { r with timer := r.timer + ms, toWrite := r.toWrite.drop ms,
               memory := (r.toWrite.take ms).foldl StoreWrite.into r.memory } := by
  unfold Store.pass
  split <;> simp_all

/-- From the moment a save begins the memory reads INCOMPLETE, and so is BAD (R175, R176). -/
theorem beginSave_incomplete (m : Image) (r : Store) :
    (r.beginSave m).memory.take 3 = imageHeader .incomplete ∧ judgeImage (r.beginSave m).memory = none := by
  have h : (r.beginSave m).memory = imageHeader .incomplete ++ r.memory.drop 3 := rfl
  have t : (r.beginSave m).memory.take 3 = imageHeader .incomplete := by rw [h]; exact List.take_left' rfl
  exact ⟨t, by simp only [judgeImage, imageGood, t]; rfl⟩

/-- A bank of records of one size. -/
theorem length_flatMap_const {α : Type} {n k : Nat} (v : Vector α n) {f : α → List Byte} (h : ∀ x, (f x).length = k) :
    (v.toList.flatMap f).length = n * k := by
  simp [List.length_flatMap, h, List.map_const']

/-- The bytes of a bit map. -/
theorem length_bitBytes (bs : List Bool) (k : Nat) : (bitBytes bs k).length = k := by
  induction k generalizing bs with
  | zero => rfl
  | succ k ih => simp [bitBytes, ih]

/-- The sections of an image have one length (R172). -/
theorem length_sections (m : Image) : m.sections.length = 2098 := by
  have u16l : ∀ n, (u16 n).length = 2 := fun _ => rfl
  have i16l : ∀ n, (i16 n).length = 2 := fun _ => rfl
  have set : ∀ g : GroupSet, (groupSetBytes g).length = 2 := fun g => length_bitBytes _ _
  have stage : ∀ st : Stage, (stageBytes st).length = 10 := fun st => by
    simp only [stageBytes, List.length_append, set, u16l]; rfl
  have group : ∀ g : GroupConfig, (groupConfigBytes g).length = 8 := fun _ => rfl
  have lamp : ∀ l : LampConfig, (lampConfigBytes l).length = 9 := fun _ => rfl
  have plan : ∀ p : Plan, (planBytes p).length = 128 := fun p => by
    simp only [planBytes, List.length_append, length_flatMap_const (planBank p.count fun k => p.stages[k]) stage, u16l]; rfl
  have subst : ∀ e : SubstEntry, (substBytes e).length = 10 := fun e => by
    simp only [substBytes, List.length_append, set, u16l]; rfl
  have qualifier : ∀ q : QualifierConfig, (qualifierConfigBytes q).length = 11 := fun _ => rfl
  simp only [Image.sections, List.length_append, length_flatMap_const m.matrix set,
    length_flatMap_const m.intergreens (k := 16) (fun row => row.length_toList),
    length_flatMap_const m.groups group, length_flatMap_const m.lamps lamp, length_flatMap_const m.plans plan,
    length_flatMap_const m.substs subst, length_flatMap_const m.qualifiers qualifier, coreSetBytes, length_bitBytes, u16l]
  rfl

/-- The bytes of an image are judged GOOD, and are read back. -/
theorem judgeImage_bytes (m : Image) : judgeImage m.bytes = some (readImage m.bytes) := by
  have hl : (imageHeader .complete ++ m.sections).length = 2101 := by
    simp only [List.length_append, length_sections]; rfl
  have hc : m.crc.length = 2 := rfl
  have hg : imageGood m.bytes = true := by
    have h3 : m.bytes.take 3 = imageHeader .complete := by
      simp only [Image.bytes, List.append_assoc]; exact List.take_left' rfl
    have ht : m.bytes.take 2101 = imageHeader .complete ++ m.sections := List.take_left' hl
    have hd : m.bytes.drop 2101 = m.crc := List.drop_left' hl
    have hn : m.bytes.length = 2103 := by simp only [Image.bytes, List.length_append, hc] at hl ⊢; omega
    simp only [imageGood, imageLength, h3, ht, hd, hn, Nat.reduceSub]
    simp [Image.crc, crcBytes]
  simp only [judgeImage, hg, if_true]

end Sys2Proof.Machine
end

