-- ==== Sys2Proof/Laws/PerInstr.lean ====
section
/-! SUPPORT. The family `Rights`, one lemma for each command: a request that can arise is one that its port may make
(R171). -/

namespace Sys2Proof.Laws

open Sys2Proof.Machine

/-- A well-formed request stands on a port that R171 gives it. -/
def Rights.Statement (i : Instr) : Prop :=
  ∀ p code, requestOf i = some (p, code) → wellFormed i = true → permitted code p = true

/-- A request with one port that R171 gives it. -/
theorem rights_fixed {i : Instr} {q : Port} {k : Nat} (hr : requestOf i = some (q, k))
    (hp : permitted k q = true) : Rights.Statement i := by
  intro p code h _
  rw [hr] at h
  cases h
  exact hp

/-- A command that is no request. -/
theorem rights_event {i : Instr} (hr : requestOf i = none) : Rights.Statement i := by
  intro p code h _
  rw [hr] at h
  cases h

theorem Rights.writeGroup (group : Nat) (type : Nat) (minGreen : Nat) (redAmber : Nat) (amber : Nat) (clearance : Nat) (minRed : Nat) :
    Rights.Statement (.writeGroup group type minGreen redAmber amber clearance minRed) :=
  rights_fixed rfl rfl
theorem Rights.readGroup (p : Port) (group : Nat) : Rights.Statement (.readGroup p group) :=
  rights_fixed rfl (by cases p <;> rfl)
theorem Rights.restart : Rights.Statement .restart := rights_fixed rfl rfl
theorem Rights.writeStartTimes (startFlash : Nat) (allRed : Nat) :
    Rights.Statement (.writeStartTimes startFlash allRed) :=
  rights_fixed rfl rfl
theorem Rights.forceFlash : Rights.Statement .forceFlash := rights_fixed rfl rfl
theorem Rights.forceOff : Rights.Statement .forceOff := rights_fixed rfl rfl
theorem Rights.hold (p : Port) : Rights.Statement (.hold p) := by
  intro q code h w
  cases h
  cases p
  all_goals first | rfl | simp [wellFormed] at w
theorem Rights.resume (p : Port) : Rights.Statement (.resume p) := by
  intro q code h w
  cases h
  cases p
  all_goals first | rfl | simp [wellFormed] at w
theorem Rights.step (p : Port) (index : Option Nat) : Rights.Statement (.step p index) := by
  intro q code h w
  cases h
  cases p
  all_goals first | rfl | simp [wellFormed] at w
theorem Rights.runSteps (p : Port) (n : Nat) : Rights.Statement (.runSteps p n) := by
  intro q code h w
  cases h
  cases p
  all_goals first | rfl | simp [wellFormed] at w
theorem Rights.readMode (p : Port) : Rights.Statement (.readMode p) := rights_fixed rfl (by cases p <;> rfl)
theorem Rights.writeConflicts (matrix : Vector GroupSet 16) : Rights.Statement (.writeConflicts matrix) :=
  rights_fixed rfl rfl
theorem Rights.writeIntergreens (part : Nat) (rows : Vector (Vector Byte 16) 4) :
    Rights.Statement (.writeIntergreens part rows) :=
  rights_fixed rfl rfl
theorem Rights.readConflicts (p : Port) : Rights.Statement (.readConflicts p) := rights_fixed rfl (by cases p <;> rfl)
theorem Rights.readIntergreens (p : Port) (part : Nat) : Rights.Statement (.readIntergreens p part) :=
  rights_fixed rfl (by cases p <;> rfl)
theorem Rights.readInterstage (p : Port) : Rights.Statement (.readInterstage p) :=
  rights_fixed rfl (by cases p <;> rfl)
theorem Rights.writePlan (part : PlanPart) : Rights.Statement (.writePlan part) := rights_fixed rfl rfl
theorem Rights.readPlan (p : Port) (plan : Nat) (part : Nat) : Rights.Statement (.readPlan p plan part) :=
  rights_fixed rfl (by cases p <;> rfl)
theorem Rights.selectPlan (plan : Nat) : Rights.Statement (.selectPlan plan) := rights_fixed rfl rfl
theorem Rights.demand (stage : Nat) : Rights.Statement (.demand stage) := rights_fixed rfl rfl
theorem Rights.extend (x : Nat) : Rights.Statement (.extend x) := rights_fixed rfl rfl
theorem Rights.writeSubst (entry : Nat) (plan : Nat) (stage : Nat) (set : GroupSet) (stageMin : Nat) (stageMax : Nat) (demandFlag : Nat) :
    Rights.Statement (.writeSubst entry plan stage set stageMin stageMax demandFlag) :=
  rights_fixed rfl rfl
theorem Rights.enableSubst (entry : Nat) : Rights.Statement (.enableSubst entry) := rights_fixed rfl rfl
theorem Rights.disableSubst (entry : Nat) : Rights.Statement (.disableSubst entry) := rights_fixed rfl rfl
theorem Rights.readSubst (p : Port) : Rights.Statement (.readSubst p) := rights_fixed rfl (by cases p <;> rfl)
theorem Rights.readSequence (p : Port) : Rights.Statement (.readSequence p) := rights_fixed rfl (by cases p <;> rfl)
theorem Rights.readSync (p : Port) : Rights.Statement (.readSync p) := rights_fixed rfl (by cases p <;> rfl)
theorem Rights.writeScan (scanMode : Nat) (filter : Nat) (threshold : Nat) :
    Rights.Statement (.writeScan scanMode filter threshold) :=
  rights_fixed rfl rfl
theorem Rights.readSnapshot (p : Port) : Rights.Statement (.readSnapshot p) := by
  intro q code h w
  cases h
  cases p
  all_goals first | rfl | simp [wellFormed] at w
theorem Rights.readScan (p : Port) (row : Nat) : Rights.Statement (.readScan p row) :=
  rights_fixed rfl (by cases p <;> rfl)
theorem Rights.writeLamp (aspect : Nat) (fitted : Nat) (type : Nat) (bright : Nat) (dim : Nat) (leak : Nat) (tolerance : Nat) (frozen : Nat) :
    Rights.Statement (.writeLamp aspect fitted type bright dim leak tolerance frozen) :=
  rights_fixed rfl rfl
theorem Rights.learn (aspect : Nat) : Rights.Statement (.learn aspect) := rights_fixed rfl rfl
theorem Rights.readLamp (p : Port) (aspect : Nat) : Rights.Statement (.readLamp p aspect) :=
  rights_fixed rfl (by cases p <;> rfl)
theorem Rights.testEnable : Rights.Statement .testEnable := rights_fixed rfl rfl
theorem Rights.testDisable : Rights.Statement .testDisable := rights_fixed rfl rfl
theorem Rights.testSet (cores : CoreSet) : Rights.Statement (.testSet cores) := rights_fixed rfl rfl
theorem Rights.testInterval (seconds : Nat) : Rights.Statement (.testInterval seconds) := rights_fixed rfl rfl
theorem Rights.testStartCyclic : Rights.Statement .testStartCyclic := rights_fixed rfl rfl
theorem Rights.testStop : Rights.Statement .testStop := rights_fixed rfl rfl
theorem Rights.testCore (core : Nat) : Rights.Statement (.testCore core) := rights_fixed rfl rfl
theorem Rights.clearCable (core : Nat) : Rights.Statement (.clearCable core) := rights_fixed rfl rfl
theorem Rights.readCable (p : Port) (core : Nat) : Rights.Statement (.readCable p core) :=
  rights_fixed rfl (by cases p <;> rfl)
theorem Rights.readTestUnit (p : Port) : Rights.Statement (.readTestUnit p) := rights_fixed rfl (by cases p <;> rfl)
theorem Rights.writeQualifier (qualifier : Nat) (args : QualifierArgs) :
    Rights.Statement (.writeQualifier qualifier args) :=
  rights_fixed rfl rfl
theorem Rights.arm (qualifier : Nat) : Rights.Statement (.arm qualifier) := rights_fixed rfl rfl
theorem Rights.disarm (qualifier : Nat) : Rights.Statement (.disarm qualifier) := rights_fixed rfl rfl
theorem Rights.readQualifier (p : Port) (qualifier : Nat) : Rights.Statement (.readQualifier p qualifier) :=
  rights_fixed rfl (by cases p <;> rfl)
theorem Rights.ackFault (p : Port) (kind : Nat) (subject : Nat) : Rights.Statement (.ackFault p kind subject) := by
  intro q code h w
  cases h
  cases p
  all_goals first | rfl | simp [wellFormed] at w
theorem Rights.clearOverflow : Rights.Statement .clearOverflow := rights_fixed rfl rfl
theorem Rights.readFaults (p : Port) (position : Nat) : Rights.Statement (.readFaults p position) :=
  rights_fixed rfl (by cases p <;> rfl)
theorem Rights.readHistory (p : Port) : Rights.Statement (.readHistory p) := rights_fixed rfl (by cases p <;> rfl)
theorem Rights.seekHistory (p : Port) : Rights.Statement (.seekHistory p) := rights_fixed rfl (by cases p <;> rfl)
theorem Rights.saveStore : Rights.Statement .saveStore := rights_fixed rfl rfl
theorem Rights.readStore (p : Port) : Rights.Statement (.readStore p) := rights_fixed rfl (by cases p <;> rfl)
theorem Rights.requestFrameComplete (p : Port) (check : Byte) : Rights.Statement (.requestFrameComplete p check) :=
  rights_event rfl
theorem Rights.frameLengthOver96 (p : Port) (length : Byte) : Rights.Statement (.frameLengthOver96 p length) :=
  rights_event rfl
theorem Rights.selectRelease (p : Port) : Rights.Statement (.selectRelease p) := rights_event rfl
theorem Rights.maintenanceGapExpiry : Rights.Statement .maintenanceGapExpiry := rights_event rfl
theorem Rights.maintenanceResponseSent : Rights.Statement .maintenanceResponseSent := rights_event rfl
theorem Rights.decisecondStep : Rights.Statement .decisecondStep := rights_event rfl
theorem Rights.timedStateExit (g : GroupId) : Rights.Statement (.timedStateExit g) := rights_event rfl
theorem Rights.flashPhaseEnd : Rights.Statement .flashPhaseEnd := rights_event rfl
theorem Rights.allRedPhaseEnd : Rights.Statement .allRedPhaseEnd := rights_event rfl
theorem Rights.sequencerTick : Rights.Statement .sequencerTick := rights_event rfl
theorem Rights.correctionSpent : Rights.Statement .correctionSpent := rights_event rfl
theorem Rights.syncWatchExpiry : Rights.Statement .syncWatchExpiry := rights_event rfl
theorem Rights.stageRequest (request : StageRequest) : Rights.Statement (.stageRequest request) := rights_event rfl
theorem Rights.stepCountHold (budgetPort : BudgetPort) : Rights.Statement (.stepCountHold budgetPort) :=
  rights_event rfl
theorem Rights.redLossChange (g : GroupId) : Rights.Statement (.redLossChange g) := rights_event rfl
theorem Rights.conflictObservedDeclaration (g : GroupId) : Rights.Statement (.conflictObservedDeclaration g) :=
  rights_event rfl
theorem Rights.qualifierFlash : Rights.Statement .qualifierFlash := rights_event rfl
theorem Rights.qualifierHold : Rights.Statement .qualifierHold := rights_event rfl
theorem Rights.panelRawChange (input : PanelSwitch) (on : Bool) : Rights.Statement (.panelRawChange input on) :=
  rights_event rfl
theorem Rights.handOn : Rights.Statement .handOn := rights_event rfl
theorem Rights.handOff : Rights.Statement .handOff := rights_event rfl
theorem Rights.stepPress : Rights.Statement .stepPress := rights_event rfl
theorem Rights.contactorFeedbackChange (closed : Bool) : Rights.Statement (.contactorFeedbackChange closed) :=
  rights_event rfl
theorem Rights.contactorTimerExpiry : Rights.Statement .contactorTimerExpiry := rights_event rfl
theorem Rights.syncInputRise : Rights.Statement .syncInputRise := rights_event rfl
theorem Rights.syncInputFall : Rights.Statement .syncInputFall := rights_event rfl
theorem Rights.countedPulse : Rights.Statement .countedPulse := rights_event rfl
theorem Rights.zeroCross (readings : Vector Reading 16) : Rights.Statement (.zeroCross readings) := rights_event rfl
theorem Rights.scanSuspend : Rights.Statement .scanSuspend := rights_event rfl
theorem Rights.aspectLevelChange (c : CoreId) (lit : Bool) : Rights.Statement (.aspectLevelChange c lit) :=
  rights_event rfl
theorem Rights.dimChange (on : Bool) : Rights.Statement (.dimChange on) := rights_event rfl
theorem Rights.junctionModeNotice (block : NoticeBlock) (mode : Mode) :
    Rights.Statement (.junctionModeNotice block mode) :=
  rights_event rfl
theorem Rights.lampFrameResult (results : Vector AspectResult 64) : Rights.Statement (.lampFrameResult results) :=
  rights_event rfl
theorem Rights.cableResult (c : CoreId) (cls : CableClass) (leakage : Int) (offset : Int) :
    Rights.Statement (.cableResult c cls leakage offset) :=
  rights_event rfl
theorem Rights.lampOutDeclaration (c : CoreId) : Rights.Statement (.lampOutDeclaration c) := rights_event rfl
theorem Rights.redLostDeclaration (c : CoreId) : Rights.Statement (.redLostDeclaration c) := rights_event rfl
theorem Rights.aspectCommandChange (c : CoreId) (command : AspectCommand) :
    Rights.Statement (.aspectCommandChange c command) :=
  rights_event rfl
theorem Rights.energiseNotice (c : CoreId) : Rights.Statement (.energiseNotice c) := rights_event rfl
theorem Rights.intervalExpiry : Rights.Statement .intervalExpiry := rights_event rfl
theorem Rights.positivePhaseEnd (current : Int) : Rights.Statement (.positivePhaseEnd current) := rights_event rfl
theorem Rights.testCompletion (current : Int) : Rights.Statement (.testCompletion current) := rights_event rfl
theorem Rights.waitLimitExpiry (c : CoreId) : Rights.Statement (.waitLimitExpiry c) := rights_event rfl
theorem Rights.faultRaise (kind : FaultKind) (subject : Subject) : Rights.Statement (.faultRaise kind subject) :=
  rights_event rfl
theorem Rights.faultClear (kind : FaultKind) (subject : Subject) : Rights.Statement (.faultClear kind subject) :=
  rights_event rfl
theorem Rights.historyEntry (item : HistoryItem) : Rights.Statement (.historyEntry item) := rights_event rfl
theorem Rights.powerOnReset : Rights.Statement .powerOnReset := rights_event rfl
theorem Rights.storeLoadEnd (memory : List Byte) : Rights.Statement (.storeLoadEnd memory) := rights_event rfl
theorem Rights.storeLoadTimeout : Rights.Statement .storeLoadTimeout := rights_event rfl
theorem Rights.storeSaveEnd (memory : List Byte) : Rights.Statement (.storeSaveEnd memory) := rights_event rfl
theorem Rights.storeSaveTimeout : Rights.Statement .storeSaveTimeout := rights_event rfl
theorem Rights.stepTurningOff : Rights.Statement .stepTurningOff := rights_event rfl
theorem Rights.incomingByte (p : Port) (b : Byte) : Rights.Statement (.incomingByte p b) := rights_event rfl
theorem Rights.selectionStart (p : Port) : Rights.Statement (.selectionStart p) := rights_event rfl

end Sys2Proof.Laws
end

