-- ==== Sys2Proof/Tests/Slice0.lean ====
section
/-! SUPPORT. The author's own tests: the smoke test of `wellFormed`, figures of the manual's worked cases, and for each
statement that has hypotheses a witness that meets them, clause by clause. -/

namespace Sys2Proof.Tests

open Sys2Proof.Machine

/-! ## Small states -/

/-- The part after a load, DARK, with nothing configured. -/
def ready : State := { State.reset with store.state := .idle }

/-- A group record of a type in a state. -/
def groupIn (type : GroupType) (state : GroupState) : Group :=
  { ready.engine.groups[0] with type := type, state := state, minGreen := 20, amber := 20, redAmber := 10, minRed := 10 }

/-- The part in a mode, with its first three groups as given. -/
def inMode (mode : Mode) (a b c : Group) : State :=
  { ready with
    engine.mode := mode
    engine.groups := put (put (put ready.engine.groups 0 a) 1 b) 2 c }

/-- A junction in RUN: group 1 VEHICLE in GREEN, group 2 VEHICLE in RED, group 3 PEDESTRIAN in CLEARANCE. -/
def running : State :=
  inMode .run (groupIn .vehicle .green) (groupIn .vehicle .red) (groupIn .pedestrian .clearance)

/-- The same junction in HELD. -/
def held : State := { running with engine.mode := .held }

/-- The same groups in FLASH. -/
def flashing : State := inMode .flash (groupIn .vehicle .flashing) (groupIn .vehicle .flashing) (groupIn .pedestrian .dark)

/-- A state with an interstage in flight. -/
def flying (s : State) : State := { s with engine.interstage.inFlight := true }

/-- A state with a save in flight. -/
def saving (s : State) : State := { s with store.state := .saving }

/-- A stage of a group set with an end point. -/
def stageOf (groups : List Nat) (endPoint : Nat) : Stage :=
  { set := groupsOf groups, endPoint := endPoint, stageMin := 100, stageMax := 500, demandDependent := false,
    elastic := decide (endPoint = 300) }

/-- A VALID plan of two stages with cycle time 900 ds and offset 250 ds. -/
def plan900 : Plan :=
  { cycle := 900, offset := 250, sync := true, dim := true, count := 2,
    stages := put (put ready.seq.plans[0].stages 0 (stageOf [1] 300)) 1 (stageOf [2] 600), validity := .valid }

/-- A state with that plan as plan 1, in force. -/
def planned (s : State) : State := { s with seq.plans := put s.seq.plans 0 plan900 }

/-- A stage request for group 2. -/
def request2 : StageRequest :=
  { set := groupsOf [2], tag := { plan := 0, stage := 2, substituted := false, cycleAt := 7 } }

/-- A state with core 1 (aspect 1R) fitted with two lamps and core 2 with one. -/
def lamped (s : State) : State :=
  { s with
    lamps.lamps := put (put s.lamps.lamps 0 { s.lamps.lamps[0] with fitted := 2, proven := 2 }) 1
      { s.lamps.lamps[1] with fitted := 1, proven := 1 } }

/-- A test in flight on core 1. -/
def flight1 (phase : TestPhase) (positive : Option Int) : Flight :=
  { core := 0, source := .queue, phase := phase, start := 0#32, phaseStart := 0#32, positive := positive }

/-- A queue entry for a core. -/
def entryFor (c : CoreId) (seen under : Bool) : QueueEntry :=
  { core := c, origin := .request, waitStart := 0#32, seenEligible := seen, underTest := under }

/-- The enabled cable unit with a queue and a flight. -/
def testing (queue : List QueueEntry) (flight : Option Flight) : State :=
  { lamped ready with cable.enabled := true, cable.queue := queue, cable.flight := flight, cable.unitState := .idle }

/-- A state whose plan port has this record. -/
def withPort (r : PortRecord) : State := { ready with ports.plan := r }

/-- A port in a state with bytes received. -/
def portIn (state : PortState) (received : List Byte) : PortRecord :=
  { PortRecord.reset with state := state, received := received }

/-- A fault record. -/
def faultOf (kind : FaultKind) (subject : Subject) (state : FaultState) (acknowledged : Bool) : FaultRecord :=
  { kind := kind, subject := subject, state := state, acknowledged := acknowledged, firstSeen := 0#32, lastSeen := 0#32,
    occurrences := 1 }

/-- The state with these fault records. -/
def faulty (records : List FaultRecord) : State := { ready with faults := FaultTable.make records 0 }

/-- A full table: 32 LAMP_OUT records in one state. -/
def fullTable (state : FaultState) : List FaultRecord :=
  (List.range 32).map fun k => faultOf .lampOut (.aspect (Fin.ofNat 64 k)) state false

/-- The worked case of R165: entries 44 to 59, the cursors at 40, 58 and 60. -/
def ring16 : State :=
  { ready with
    history.ring := (List.range 16).map fun k =>
      { sequence := BitVec.ofNat 16 (44 + k), time := 0#32, kind := .mode, plan := 0, fromStage := 0, toStage := 0,
        cycleAt := 0, duration := 0, withheld := noGroups, substituted := false, detail := .mode .run }
    history.next := 60#16
    history.cursors := { plan := 40#16, monitor := 58#16, maintenance := 60#16 } }

/-- The matrix with no conflict. -/
def noConflicts : Vector GroupSet 16 := Vector.replicate 16 noGroups

/-- A part of an intergreen table with one value throughout. -/
def partOf (n : Nat) : Vector IgRow 4 := Vector.replicate 4 (Vector.replicate 16 (BitVec.ofNat 8 n))

/-- The readings of a slot: every group reads this raw value. -/
def readingsOf (raw : Nat) : Vector Reading 16 := Vector.replicate 16 { raw := raw, senseOpen := false }

/-- A state in which these messages wait to be taken. -/
def waiting (s : State) (messages : List Instr) : State := { s with outbox := messages }

/-- What a query makes of the state a command leaves. -/
def after {α : Type} (i : Instr) (s : State) (f : State → α) : Option α :=
  match exec i s with
  | .next t => some (f t)
  | _ => none

/-- The status with which a command is answered on a port. -/
def statusOf (p : Port) (t : State) : Option Status := (t.ports.at p).response.map fun r => r.status

/-! ## Well-formedness -/

/-- One ill-formed term for each check of the requests on groups, modes and conflicts. -/
def illFormedGroups : List Instr :=
  [.writeGroup 256 0 0 0 0 0 0, .writeGroup 0 256 0 0 0 0 0, .writeGroup 0 0 65536 0 0 0 0, .writeGroup 0 0 0 256 0 0 0,
   .writeGroup 0 0 0 0 256 0 0, .writeGroup 0 0 0 0 0 65536 0, .writeGroup 0 0 0 0 0 0 256, .readGroup .plan 256,
   .writeStartTimes 65536 0, .writeStartTimes 0 65536, .hold .monitor, .resume .monitor, .step .monitor none,
   .step .plan (some 256), .runSteps .monitor 0, .runSteps .plan 256, .writeIntergreens 256 (partOf 0),
   .readIntergreens .plan 256]

/-- One for each check of the requests on plans and scanning. -/
def illFormedPlans : List Instr :=
  [.readPlan .plan 256 0, .readPlan .plan 0 256, .selectPlan 256, .demand 256, .extend 256,
   .writeSubst 256 0 0 noGroups 0 0 0, .writeSubst 0 256 0 noGroups 0 0 0, .writeSubst 0 0 256 noGroups 0 0 0,
   .writeSubst 0 0 0 noGroups 65536 0 0, .writeSubst 0 0 0 noGroups 0 65536 0, .writeSubst 0 0 0 noGroups 0 0 256,
   .enableSubst 256, .disableSubst 256, .writeScan 256 0 0, .writeScan 0 256 0, .writeScan 0 0 256,
   .readSnapshot .plan, .readScan .plan 256]

/-- One for each check of the requests on lamps, cables, qualifiers and faults. -/
def illFormedUnits : List Instr :=
  [.writeLamp 256 0 0 0 0 0 0 0, .writeLamp 0 256 0 0 0 0 0 0, .writeLamp 0 0 256 0 0 0 0 0,
   .writeLamp 0 0 0 65536 0 0 0 0, .writeLamp 0 0 0 0 65536 0 0 0, .writeLamp 0 0 0 0 0 256 0 0,
   .writeLamp 0 0 0 0 0 0 256 0, .writeLamp 0 0 0 0 0 0 0 256, .learn 256, .readLamp .plan 256, .testInterval 256,
   .testCore 256, .clearCable 256, .readCable .plan 256, .arm 256, .disarm 256, .readQualifier .plan 256,
   .ackFault .plan 0 0, .ackFault .monitor 256 0, .ackFault .monitor 0 256, .readFaults .plan 256]

/-- One for each check of WRITE_PLAN and of the events. -/
def illFormedOthers : List Instr :=
  [.writePlan (.one 256 0 0 0 0 0 []), .writePlan (.one 0 65536 0 0 0 0 []), .writePlan (.one 0 0 65536 0 0 0 []),
   .writePlan (.one 0 0 0 256 0 0 []), .writePlan (.one 0 0 0 0 256 0 []), .writePlan (.one 0 0 0 0 0 256 []),
   .writePlan (.one 0 0 0 0 0 1 []), .writePlan (.two 256 []), .writePlan (.other 256), .writePlan (.other 1),
   .frameLengthOver96 .plan 96#8, .selectRelease .maintenance, .selectionStart .maintenance, .stepCountHold .none,
   .zeroCross (readingsOf 4096), .lampOutDeclaration 0, .redLostDeclaration 1, .positivePhaseEnd 2048,
   .positivePhaseEnd (-2049), .testCompletion 2048, .cableResult 0 .saturated 0 0, .cableResult 0 .valid 2048 0,
   .cableResult 0 .valid (-2048) 0, .cableResult 0 .valid 0 2048, .faultRaise .lampOut .none,
   .faultClear .forced (.group 0)]

/-- A WRITE_PLAN part 2 of one stage with these numbers. -/
def planOf (endPoint stageMin stageMax demand elastic : Nat) : Instr :=
  .writePlan (.two 1 [{ set := noGroups, endPoint := endPoint, stageMin := stageMin, stageMax := stageMax,
                        demandDependent := demand, elastic := elastic }])

/-- A WRITE_QUALIFIER with these numbers. -/
def qualifierOf (source subject conditionA conditionB rule count action : Nat) (limitA limitB : Int) : Instr :=
  .writeQualifier 1
    { source := source, subject := subject, a := { limit := limitA, condition := conditionA },
      b := { limit := limitB, condition := conditionB }, combine := rule, count := count, action := action }

/-- A stage request with this stage index and cycle timer value in its tag. -/
def requestOfStage (stage cycleAt : Nat) : Instr :=
  .stageRequest { set := noGroups, tag := { plan := 0, stage := stage, substituted := false, cycleAt := cycleAt } }

/-- A frame result in which every aspect has these figures. -/
def resultOf (raw net proven : Nat) : Instr :=
  .lampFrameResult (Vector.replicate 64 { cls := .lit, raw := raw, net := net, proven := proven })

/-- One for each check of the records that commands carry. -/
def illFormedRecords : List Instr :=
  [planOf 65536 0 0 0 0, planOf 0 65536 0 0 0, planOf 0 0 65536 0 0, planOf 0 0 0 256 0, planOf 0 0 0 0 256,
   .writePlan (.two 1 (List.replicate 10 { set := noGroups, endPoint := 0, stageMin := 0, stageMax := 0,
                                           demandDependent := 0, elastic := 0 })),
   .writePlan (.other 2), .writeQualifier 256 { source := 0, subject := 1, a := { limit := 0, condition := 0 },
                                                b := { limit := 0, condition := 0 }, combine := 0, count := 1, action := 0 },
   qualifierOf 256 1 0 0 0 1 0 0 0, qualifierOf 0 256 0 0 0 1 0 0 0, qualifierOf 0 1 256 0 0 1 0 0 0,
   qualifierOf 0 1 0 256 0 1 0 0 0, qualifierOf 0 1 0 0 256 1 0 0 0, qualifierOf 0 1 0 0 0 256 0 0 0,
   qualifierOf 0 1 0 0 0 1 256 0 0, qualifierOf 0 1 0 0 0 1 0 32768 0, qualifierOf 0 1 0 0 0 1 0 0 (-32769),
   requestOfStage 0 0, requestOfStage 13 0, requestOfStage 1 2400]

/-- One for each check of a history item and a frame result. -/
def illFormedReports : List Instr :=
  [.historyEntry (.change { plan := 0, stage := 0, substituted := false, cycleAt := 0 } 0 noGroups),
   .historyEntry (.skip 0 0 1 0), .historyEntry (.skip 0 1 13 0), .historyEntry (.skip 0 1 1 2400),
   .historyEntry (.plan 0 2400), .historyEntry (.hold 0 0 0 .panel), .historyEntry (.hold 0 1 2400 .panel),
   .historyEntry (.hold 0 1 0 .none), .historyEntry (.mode 0 2400 .run), .historyEntry (.mode 0 0 .held),
   resultOf 4096 0 0, resultOf 0 4096 0, resultOf 0 0 5]

/-- One ill-formed term for each check of `wellFormed`. -/
def illFormed : List Instr :=
  illFormedGroups ++ illFormedPlans ++ illFormedUnits ++ illFormedOthers ++ illFormedRecords ++ illFormedReports

theorem test_wellFormed_refuses_each : illFormed.all (fun i => !wellFormed i) = true := by decide

theorem test_wellFormed_admits :
    [Instr.writeGroup 255 3 65535 255 255 65535 255, .step .plan (some 255), .zeroCross (readingsOf 4095),
     .testCompletion (-2048), .lampOutDeclaration 1, .redLostDeclaration 0, .frameLengthOver96 .plan 97#8].all
      wellFormed = true := by decide

theorem test_no_word_spells_a_command : decodeTableWord 0 0 = none ∧ decodeTableWord 16 0xFFFF = none := ⟨rfl, rfl⟩

/-! ## Figures of the manual -/

/-- The four cases of "The error and the applied amount" (chapter 05). -/
theorem test_sync_errors : [190, 800, 700, 699].map (syncError 250 900) = [60, 350, 450, -449] := by decide

/-- The four cases of "The figures of a test" (chapter 08): leakage, offset and class. -/
theorem test_cable_figures :
    ([(146, -118), (37, -42), (-20, -95), (2047, -611)] : List (Int × Int)).map
      (fun x => (half (x.1 - x.2), half (x.1 + x.2), testClass x.1 x.2)) =
    [(132, 14, .valid), (39, -2, .valid), (37, -57, .asymmetric), (1329, 718, .saturated)] := by decide

/-- The lamp record of "A red aspect loses its lamps" (chapter 07). -/
def lamp5R : Lamp :=
  { ready.lamps.lamps[0] with fitted := 2, bright := 4000, leak := 12, candidate := 2, candidateRun := 15, proven := 2 }

/-- The record after each of the frames of that case. -/
def framesOf (l : Lamp) : List Nat → List (Nat × Nat × Nat × Nat × Nat)
  | [] => []
  | m :: rest =>
    let l := (l.work .R false 3 .lit m).lamp
    (l.bright, l.candidate, l.candidateRun, l.proven, l.doubtfulRun) :: framesOf l rest

theorem test_red_aspect_loses_its_lamps :
    framesOf lamp5R [512, 520, 274, 274, 274, 140, 20, 20, 20] =
      [(4000, 2, 15, 2, 0), (4004, 2, 15, 2, 0), (4004, 1, 1, 2, 0), (4004, 1, 2, 2, 0), (4004, 1, 3, 1, 0),
       (4004, 1, 3, 1, 1), (4004, 0, 1, 1, 0), (4004, 0, 2, 1, 0), (4004, 0, 3, 0, 0)] := by decide

/-- "Three cursors on a full ring" (chapter 10). -/
theorem test_three_cursors :
    (ring16.history.readAt 40#16).map (fun x => (x.1.sequence, x.2)) = some (44#16, 4) ∧
    (ring16.history.readAt 58#16).map (fun x => (x.1.sequence, x.2)) = some (58#16, 0) ∧
    ring16.history.readAt 60#16 = none := by decide

/-- R173: the CRC register starts at 0xFFFF; one zero byte takes it to 0xE1F0 (eight hand-made shifts). -/
theorem test_crc_of_a_zero : crc16 [] = 0xFFFF#16 ∧ crc16 [0x00#8] = 0xE1F0#16 := by decide

/-- R172: the bytes of a response frame; the check makes the sum from the request code on 0. -/
theorem test_response_bytes :
    ({ code := 20#8, status := .wrongMode, overrun := true, payload := [] } : Response).bytes =
      [0x5A#8, 20#8, 0x85#8, 0#8, 0x67#8] := by decide

/-- R172: a request frame for DEMAND 2 spells DEMAND 2. -/
theorem test_request_spelled :
    readRequest 20 .plan none [2#8] = some (.demand 2) ∧ readRequest 20 .plan none [] = none ∧
    readRequest 9 .plan none [] = some (.step .plan none) ∧ readRequest 9 .plan none [3#8] = some (.step .plan (some 3)) ∧
    readRequest 25 .monitor none [0#8] = none := by decide

/-- "Red loss, acknowledged while present" (chapter 10): kept when acknowledged, removed at the clear. -/
theorem test_red_loss_acknowledged :
    let t := (FaultTable.empty.raise .redLost (.group 4) 1200#32).raise .redLost (.group 4) 1209#32
    let a := t.acknowledge (FaultRecord.hasKey .redLost (.group 4))
    t.records.map (fun r => (r.firstSeen, r.lastSeen, r.occurrences)) = [(1200#32, 1209#32, 1)] ∧ a.line = true ∧
    (a.clear .redLost (.group 4)).records = [] := by decide

/-- R14: the ranges of a VEHICLE group at their ends. -/
theorem test_vehicle_timings :
    timingsInRange .vehicle 10 10 20 0 10 = true ∧ timingsInRange .vehicle 600 30 60 0 100 = true ∧
    timingsInRange .vehicle 9 10 20 0 10 = false ∧ timingsInRange .vehicle 10 10 20 1 10 = false := by decide

/-- R4: lit for five deciseconds, dark for five. -/
theorem test_flash_phase : (List.range 10).map (fun k => flashLit (BitVec.ofNat 32 k)) =
    [true, true, true, true, true, false, false, false, false, false] := by decide

/-- R34: which port releases which hold. -/
theorem test_release_rights :
    mayRelease .plan .planRequest .none = true ∧ mayRelease .plan .maintRequest .none = false ∧
    mayRelease .plan .stepCount .maintenance = false ∧ mayRelease .maintenance .panel .none = false := by decide

/-! ## Witnesses

Each theorem meets the hypotheses of the statement it names, together, clause by clause where the statement has clauses. -/

theorem witness_CommandsLeaveQueue : ∃ t, exec .clearOverflow { ready with pending := [.restart] } = .next t := ⟨_, rfl⟩

theorem witness_RequestNeedsItsRight :
    requestOf (.hold .monitor) = some (.monitor, 7) ∧ permitted 7 .monitor = false ∧ ready.loading = false := by decide

theorem witness_NothingMovesWhileLoading :
    State.reset.loading = true ∧ requestOf .restart = some (.monitor, 3) := by decide

/-- Core 1 under test while group 1 is about to show RED. -/
def aboutToLight : State :=
  { running with
    engine.groups := put running.engine.groups 0 (groupIn .vehicle .red)
    cable.flight := some (flight1 .positive none) }

theorem witness_LightingACoreEndsItsTest :
    aboutToLight.cable.flight = some (flight1 .positive none) ∧ aboutToLight.command 0 = .off ∧
    aboutToLight.wantedCommand 0 ≠ .off := by decide

theorem witness_invariants_hold_somewhere :
    ready.junctionSafe ∧ ready.outputsSound ∧ ready.queueSound ∧ ready.faults.wf ∧ ready.history.wf ∧
    ready.linesSound ∧ ready.clockSound ∧ ready.engine.serviceSound := by decide

/-- Idle, with the contactor's timer, the zero-cross timer and one queue wait running from 0 ms. -/
def idleAt (ms : Nat) : State :=
  { ready with
    uptimeMs := ms
    engine.contactorTimer := some 0#32
    lamps.scanState := .scanning
    lamps.lastZeroCross := BitVec.ofNat 32 ms
    cable.queue := [entryFor 0 false false] }

/-- What an idle step asks of its timers, as StepTakesFrontCommand lists them (a phase's row as false with no test in
flight). -/
def timersOf (s : State) (run : Nat → Clock → Bool) : List Bool :=
  [s.seq.sync.filter == .rising && s.seq.sync.timer.any (run 20),
   s.engine.hand.raw && !s.engine.hand.debounced && s.engine.hand.timer.any (run 50),
   !s.engine.hand.raw && s.engine.hand.debounced && s.engine.hand.timer.any (run 50),
   s.engine.stepButton.raw && !s.engine.stepButton.debounced && s.engine.stepButton.timer.any (run 50),
   !s.engine.stepButton.raw && s.engine.stepButton.debounced && s.engine.stepButton.timer.any (run 50),
   s.engine.contactorTimer.any (run 500),
   s.lamps.scanState == .scanning && run 50 s.lamps.lastZeroCross,
   s.cable.flight.any fun f => run 200 f.phaseStart,
   s.cable.intervalTimer && run (1000 * s.cable.interval) s.cable.lastTestEnd] ++
  s.cable.queue.map (fun e => !e.underTest && run 120000 e.waitStart) ++
  [s.saving && decide (2500 ≤ s.store.timer),
   (s.ports.maintenance.state == .receiving || s.ports.maintenance.state == .discarding ||
      s.ports.maintenance.ignoring || s.ports.maintenance.shadow != []) && run 100 s.ports.maintenance.lastByte]

theorem witness_StepTakesFrontCommand :
    ready.pending = [] ∧ ready.outbox = [] ∧ (waiting ready [.sequencerTick]).outbox = .sequencerTick :: [] ∧
    State.reset.loading = true ∧ ready.loading = false ∧
    (let run := fun (ms : Nat) (start : Clock) => decide (ms ≤ (BitVec.ofNat 32 499 - start).toNat)
     timersOf (idleAt 499) run = List.replicate 12 false) ∧
    (let run := fun (ms : Nat) (start : Clock) => decide (ms ≤ (BitVec.ofNat 32 500 - start).toNat)
     timersOf (idleAt 500) run = List.replicate 5 false ++ true :: List.replicate 6 false) := by decide

/-- R18, R142: a timer's expiry is taken at the ms at which its time has run, and not before. -/
theorem test_idle_step_takes_an_expiry_in_time :
    ((idleAt 498).expired, (idleAt 500).expired, ({ idleAt 119999 with engine.contactorTimer := none } : State).expired,
      ({ idleAt 120000 with engine.contactorTimer := none } : State).expired) =
      ([], [.contactorTimerExpiry], [], [.waitLimitExpiry 0]) := by decide

theorem witness_scanSound :
    ready.lamps.scanSound ∧
    ({ ready.lamps with scanState := .scanning, slotIndex := 4, rowSelect := .X } : LampUnit).scanSound := by decide

theorem witness_flightSafe : (testing [entryFor 0 true true] (some (flight1 .positive none))).flightSafe := by
  intro f h
  cases h
  decide

theorem witness_invariants_step : ∃ t, step ready = .next t := ⟨_, rfl⟩

theorem witness_a_running_junction_is_safe :
    let s := { running with conflicts.matrix := noConflicts }
    matrixSound s.conflicts.matrix = true ∧ s.modeSound ∧ s.conflictsApart ∧ s.engine.serviceSound := by decide

/-! ### Signal groups -/

theorem witness_WriteGroupTakesTimings :
    let s := { flashing with conflicts.matrix := noConflicts }
    s.loading = false ∧ isStopped s.engine.mode = true ∧ s.saving = false ∧ s.typeOf 0 = .vehicle ∧
    timingsInRange .vehicle 600 10 20 0 100 = true ∧
    s.groupCovered 0 (s.engine.groups[0].rewrite .vehicle 600 10 20 0 100) = true := by decide

theorem witness_WriteGroupChangesType :
    let s := { flashing with conflicts.matrix := noConflicts }
    s.loading = false ∧ isStopped s.engine.mode = true ∧ s.saving = false ∧ s.typeOf 15 ≠ .tram ∧
    timingsInRange .tram 10 0 60 0 10 = true ∧ s.typeAllowed 15 .tram = true ∧
    s.groupCovered 15 (s.engine.groups[15].rewrite .tram 10 0 60 0 10) = true ∧
    s.engine.interstage.target = noGroups := by decide

theorem witness_WriteGroupRefusals :
    ready.loading = false ∧ isStopped running.engine.mode = false ∧
    (isStopped ready.engine.mode = true ∧ (saving ready).saving = true) ∧
    (ready.saving = false ∧ ¬ (1 ≤ 17 ∧ 17 ≤ 16) ∧ timingsInRange .vehicle 9 10 20 0 10 = false ∧
      (lamped ready).typeAllowed 0 .pedestrian = false) := by decide

theorem witness_StepOutsideServiceMovesTime :
    flashing.loading = false ∧ isStopped flashing.engine.mode = true ∧
    flashing.engine.interstage.inFlight = false := by decide

/-- START in a phase that has run its time. -/
def phaseOver (phase : StartPhase) : State :=
  { flashing with engine.mode := .start, engine.startPhase := phase, engine.phaseTime := 60 }

theorem witness_StepOutsideServiceMovesTime_start :
    (let s := phaseOver .flashPhase
     s.loading = false ∧ s.engine.mode = .start ∧ s.engine.interstage.inFlight = false ∧
     s.engine.startPhase = .flashPhase ∧ s.engine.startFlash ≤ s.engine.phaseTime + 1) ∧
    (let s := phaseOver .allRedPhase
     s.engine.startPhase = .allRedPhase ∧ s.engine.allRed ≤ s.engine.phaseTime + 1) ∧
    ({ phaseOver .flashPhase with engine.phaseTime := 48 } : State).engine.startFlash = 48 + 2 := by decide

/-- R24, R92: RUN begins with stage 1 requested, a MODE entry and the loss watch running. -/
theorem test_run_begins :
    after .allRedPhaseEnd (planned (phaseOver .allRedPhase)) (fun t =>
      (t.engine.mode, t.seq.running.index, t.seq.sync.watch, t.history.ring.map fun e => e.detail)) =
      some (.run, 1, .running, [.mode .run]) := by decide

theorem test_flash_phase_ends_in_its_step :
    after .decisecondStep { phaseOver .flashPhase with engine.phaseTime := 49 }
      (fun t => (t.engine.startPhase, t.engine.groups[0].state)) = some (.allRedPhase, .red) ∧
    after .decisecondStep { phaseOver .flashPhase with engine.phaseTime := 48 }
      (fun t => (t.engine.startPhase, t.engine.phaseTime)) = some (.flashPhase, 49) := by decide

theorem witness_StepEndsGroups :
    let s := { running with
      engine.clock := 20#32
      engine.groups := put running.engine.groups 2 { running.engine.groups[2] with clearance := 1 } }
    s.loading = false ∧ isRunning s.engine.mode = true ∧
    (s.engine.groups[0].state = .green ∧ s.engine.interstage.target[0] = false ∧
      s.engine.groups[0].minGreen ≤ elapsed (s.engine.clock + 1) s.engine.groups[0].greenStart) ∧
    (0 < s.engine.groups[2].minRed ∧ s.engine.groups[2].timeInState < 65535 ∧ s.engine.groups[2].state = .clearance ∧
      s.engine.groups[2].clearance ≤ s.engine.groups[2].timeInState + 1) ∧
    (s.engine.groups[1].state = .red ∧ s.engine.interstage.target[1] = false) ∧
    ({ s with engine.interstage.target := groupsOf [1] } : State).engine.interstage.target[0] = true := by decide

/-- Group 2 alone, ready to start. -/
def starting : State :=
  { inMode .run (groupIn .vehicle .red) { groupIn .vehicle .red with timeInState := 9 } (groupIn .pedestrian .red) with
    conflicts.matrix := noConflicts
    engine.interstage.target := groupsOf [2] }

theorem witness_StartsKeepIntergreens :
    starting.loading = false ∧ isRunning starting.engine.mode = true ∧ starting.engine.groups[1].state = .red ∧
    after .decisecondStep starting (fun t => t.engine.groups[1].state) = some .redAmber := by decide

/-- Group 2 in RED since this step's start, its green ended by inhibition at 0 ds. -/
def cutShort (clock : Nat) : State :=
  { starting with
    engine.clock := BitVec.ofNat 32 clock
    engine.groups := put starting.engine.groups 1 { groupIn .vehicle .red with timeInState := 0, cutShort := true } }

/-- R60: minimum red (10 ds) of a group whose green inhibition ended counts from the ending. -/
theorem test_minimum_red_counts_from_the_ending :
    after .decisecondStep (cutShort 8) (fun t => t.engine.groups[1].state) = some .red ∧
    after .decisecondStep (cutShort 9) (fun t => (t.engine.groups[1].state, t.engine.groups[1].cutShort)) =
      some (.redAmber, false) := by decide

/-- R58, R60: inhibition ends a green, and the ending is kept. -/
theorem test_inhibition_cuts_a_green_short :
    ((groupIn .vehicle .green).inhibitNow 7#32).state = .amber ∧
    ((groupIn .vehicle .green).inhibitNow 7#32).cutShort = true ∧
    ((groupIn .vehicle .redAmber).inhibitNow 7#32).cutShort = false := by decide

theorem witness_StepEndsGroups_starts :
    (starting.engine.interstage.target[1] = true ∧ starting.engine.groups[1].inhibited = false ∧
      starting.engine.groups[1].minRed ≤ min 65535 (starting.engine.groups[1].timeInState + 1) ∧
      ∀ i : GroupId, starting.conflict i 1 = false) ∧
    (let s := inMode .run { groupIn .vehicle .redAmber with timeInState := 9 } (groupIn .vehicle .red) (groupIn .tram .red)
     s.engine.groups[0].state = .redAmber ∧ s.engine.groups[0].redAmber ≤ min 65535 (s.engine.groups[0].timeInState + 1) ∧
     after .decisecondStep s (fun t => t.engine.groups[0].state) = some .green) := by decide

theorem witness_TimedExits :
    let s := inMode .held { groupIn .vehicle .redAmber with timeInState := 10 }
      { groupIn .tram .amber with timeInState := 20 } { groupIn .pedestrian .clearance with clearance := 0 }
    s.loading = false ∧ isRunning s.engine.mode = true ∧
    (s.engine.groups[0].state = .redAmber ∧ s.engine.groups[0].redAmber ≤ s.engine.groups[0].timeInState) ∧
    (s.engine.groups[1].state = .amber ∧ s.engine.groups[1].amber ≤ s.engine.groups[1].timeInState) ∧
    (s.engine.groups[2].state = .clearance ∧ s.engine.groups[2].clearance ≤ s.engine.groups[2].timeInState) := by decide

/-! ### Modes and hand control -/

theorem witness_FlashPhaseEnds :
    (phaseOver .flashPhase).loading = false ∧ (phaseOver .flashPhase).engine.mode = .start ∧
    (phaseOver .flashPhase).engine.startPhase = .flashPhase ∧
    (phaseOver .flashPhase).engine.startFlash ≤ (phaseOver .flashPhase).engine.phaseTime := by decide

theorem witness_AllRedPhaseEnds :
    (phaseOver .allRedPhase).loading = false ∧ (phaseOver .allRedPhase).engine.mode = .start ∧
    (phaseOver .allRedPhase).engine.startPhase = .allRedPhase ∧
    (phaseOver .allRedPhase).engine.allRed ≤ (phaseOver .allRedPhase).engine.phaseTime ∧
    (phaseOver .allRedPhase).engine.interstage.inFlight = false := by decide

theorem witness_RestartBegins :
    let s := planned (faulty [faultOf .senseFault (.group 0) .inactive false, faultOf .forced .none .active false])
    s.loading = false ∧ isStopped s.engine.mode = true ∧ s.seq.plan.validity = .valid ∧ s.saving = false ∧
    ∀ r ∈ s.faults.records, r.kind ≠ .conflictObserved ∧ (r.kind = .senseFault → r.state = .inactive) := by decide

theorem witness_RestartRefusals :
    ready.loading = false ∧ isStopped running.engine.mode = false ∧ ready.seq.plan.validity = .invalid ∧
    (saving (planned ready)).saving = true ∧
    (∃ r ∈ (faulty [faultOf .conflictObserved (.group 0) .inactive true]).faults.records, r.kind = .conflictObserved) ∧
    (∃ r ∈ (faulty [faultOf .senseFault (.group 0) .active true]).faults.records,
      r.kind = .senseFault ∧ r.state = .active) := by decide

theorem witness_StartTimesWritten : ready.loading = false := by decide

theorem test_start_times_at_their_ends :
    after (.writeStartTimes 600 300) ready (statusOf .monitor) = some (some .ok) ∧
    after (.writeStartTimes 0 29) ready (statusOf .monitor) = some (some .range) := by decide

theorem witness_SafeModesEntered :
    running.loading = false ∧ running.engine.mode = .run ∧ held.engine.mode = .held ∧
    (phaseOver .flashPhase).engine.mode = .start ∧ flashing.engine.mode = .flash ∧ ready.engine.mode ≠ .supplyOff ∧
    running.faults.records.length < 32 := by decide

theorem witness_SafeModesKept :
    ready.loading = false ∧ ready.engine.mode = .dark ∧ flashing.engine.mode = .flash ∧
    ({ ready with engine.mode := .supplyOff } : State).engine.mode = .supplyOff := by decide

theorem test_force_flash_shows_flash :
    after .forceFlash running (fun t => (t.engine.mode, t.engine.groups[0].state, t.engine.groups[2].state)) =
      some (.flash, .flashing, .dark) := by decide

/-- RUN with an interstage in flight and a hold pending. -/
def pendingHold (cause : HoldCause) : State :=
  { flying running with engine.hold.pending := true, engine.hold.pendingCause := cause }

theorem witness_HoldsTaken :
    running.loading = false ∧ (running.engine.mode = .run ∧ running.engine.interstage.inFlight = false) ∧
    ((flying running).engine.mode = .run ∧ (flying running).engine.interstage.inFlight = true ∧
      (flying running).engine.hold.pending = false) ∧
    held.engine.mode = .held ∧
    ((pendingHold .panel).engine.mode = .run ∧ (pendingHold .panel).engine.interstage.inFlight = true ∧
      (pendingHold .panel).engine.hold.pending = true) ∧
    (ready.engine.mode ≠ .run ∧ ready.engine.mode ≠ .held) := by decide

/-- A panel input whose 50 ms timer runs towards a level. -/
def turningTo (on : Bool) : PanelInput := { raw := on, debounced := !on, timer := some 0#32 }

/-- The panel inputs of a state. -/
def panelOf (s : State) (hand button : PanelInput) : State := { s with engine.hand := hand, engine.stepButton := button }

theorem witness_PanelActs :
    (let s := panelOf running (turningTo true) (turningTo true)
     s.loading = false ∧ s.engine.hand.timer ≠ none ∧ s.engine.hand.raw = true ∧ s.engine.hand.debounced = false ∧
     s.engine.mode = .run ∧ s.engine.interstage.inFlight = false ∧ s.engine.stepButton.timer ≠ none ∧
     s.engine.stepButton.raw = true ∧ s.engine.stepButton.debounced = false ∧ s.engine.mode ≠ .held) ∧
    (let s := panelOf (flying running) (turningTo true) (turningTo false)
     s.engine.mode = .run ∧ s.engine.interstage.inFlight = true ∧ s.engine.stepButton.timer ≠ none ∧
     s.engine.stepButton.raw = false ∧ s.engine.stepButton.debounced = true) ∧
    (let s := panelOf held (turningTo true) (turningTo true)
     s.engine.mode = .held ∧ s.engine.interstage.inFlight = false) ∧
    isRunning ready.engine.mode = false := by decide

theorem witness_PanelActs_off :
    (let s := panelOf { held with engine.hold.cause := .panel } (turningTo false) (turningTo false)
     s.loading = false ∧ s.engine.hand.timer ≠ none ∧ s.engine.hand.raw = false ∧ s.engine.hand.debounced = true ∧
     s.engine.mode = .held ∧ s.engine.hold.cause = .panel ∧ s.engine.slot = none) ∧
    (let s := panelOf { held with engine.hold.cause := .panel, engine.slot := some request2 } (turningTo false)
       (turningTo false)
     s.engine.interstage.inFlight = false ∧ s.engine.slot = some request2 ∧
     after .handOff s (fun t => (t.engine.mode, t.engine.interstage.target)) = some (.run, request2.set)) ∧
    (let s := panelOf held (turningTo false) (turningTo false)
     s.engine.mode = .held ∧ s.engine.hold.cause ≠ .panel) ∧
    (let s := panelOf (pendingHold .panel) (turningTo false) (turningTo false)
     s.engine.mode = .run ∧ s.engine.hold.pending = true ∧ s.engine.hold.pendingCause = .panel) ∧
    (let s := panelOf running (turningTo false) (turningTo false)
     s.engine.mode = .run ∧ s.engine.hold.pending = false) := by decide

theorem witness_ReleasesTaken :
    (let s := { held with engine.hold.cause := .planRequest }
     s.loading = false ∧ s.engine.mode = .held ∧ s.engine.slot = none ∧ s.engine.hold.cause = .planRequest) ∧
    (let s := { held with engine.hold.cause := .stepCount, engine.hold.budgetPort := .plan, engine.slot := some request2 }
     s.engine.interstage.inFlight = false ∧ s.engine.slot = some request2 ∧ s.engine.hold.budgetPort = .plan) ∧
    (let s := { held with engine.hold.cause := .panel }
     s.engine.mode = .held ∧ s.engine.hold.cause = .panel) ∧
    (running.engine.mode = .run ∧ running.engine.hold.pending = false) ∧
    ((pendingHold .planRequest).engine.hold.pending = true ∧
      (pendingHold .planRequest).engine.hold.pendingCause = .planRequest) ∧
    (pendingHold .panel).engine.hold.pending = true ∧ isRunning ready.engine.mode = false := by decide

theorem witness_StepTaken :
    ready.loading = false ∧ ready.engine.mode ≠ .held ∧
    (held.engine.mode = .held ∧ (flying held).engine.interstage.inFlight = true) ∧
    ((planned held).engine.interstage.inFlight = false ∧ (planned held).seq.plan.count < 3) ∧
    (1 ≤ 2 ∧ 2 ≤ (planned held).seq.plan.count) := by decide

/-! ### Conflicts and the interstage -/

theorem witness_WriteConflictsTaken :
    isStopped running.engine.mode = false ∧
    (isStopped ready.engine.mode = true ∧ (saving ready).saving = true) ∧
    (flashing.saving = false ∧ ∀ i j : GroupId, noConflicts[i][i] = false ∧ noConflicts[i][j] = noConflicts[j][i] ∧
      noConflicts[i][j] = false) ∧
    (∃ i : GroupId, (put noConflicts i (groupsOf [1]))[i][i] = true) := by decide

theorem witness_IntergreenParts :
    isStopped running.engine.mode = false ∧
    (isStopped ready.engine.mode = true ∧ (saving ready).saving = true ∧ ready.saving = false ∧
      ready.conflicts.stagedParts ≠ 1) ∧
    ({ ready with conflicts.stagedParts := 1 } : State).conflicts.stagedParts = 1 ∧
    (∀ i j : GroupId, ready.conflict i j = false) ∧
    (let s := { flashing with conflicts.stagedParts := 3, conflicts.stagedRows := [] }
     s.conflicts.stagedParts = 3 ∧ s.conflict 0 1 = true ∧
     ((stagedTable (partOf 0).toList)[0][1]).toNat < s.engine.groups[0].ending + s.engine.groups[1].redAmber) := by decide

theorem witness_StageRequestTaken :
    running.loading = false ∧ isRunning ready.engine.mode = false ∧
    (isRunning (flying running).engine.mode = true ∧ (flying running).engine.interstage.inFlight = true) ∧
    (isRunning running.engine.mode = true ∧ running.engine.interstage.inFlight = false ∧
      running.engine.serviceSound) := by decide

/-- An interstage in flight with nothing left to wait for. -/
def arrived : State := { flying running with engine.interstage.entering := noGroups }

theorem witness_StageRequestTaken_completes :
    (arrived.engine.interstage.inFlight = true ∧ ∀ g : GroupId, arrived.engine.interstage.entering[g] = false) ∧
    running.engine.interstage.inFlight = false ∧
    (let s := { arrived with engine.slot := some request2 }
     s.complete.engine.mode = .run ∧ s.engine.slot = some request2) ∧
    (let s := { arrived with engine.hold := (pendingHold .panel).engine.hold, engine.slot := some request2 }
     s.complete.engine.mode = .held) := by decide

theorem test_last_step_asks_for_a_hold :
    (let s := { arrived with seq.budget := 1, seq.budgetPort := .plan }
     (s.testCompletion.seq.budget, s.testCompletion.outbox)) = (0, [.stepCountHold .plan]) := by decide

theorem test_stage_request_begins :
    after (.stageRequest request2) running (fun t =>
      (t.engine.interstage.inFlight, t.engine.interstage.leaving[0], t.engine.interstage.entering[1])) =
      some (true, true, true) := by decide

/-- Group 2's red loss declared, and not yet taken by the engine. -/
def redLossWaits : State :=
  { running with
    lamps.lamps := put running.lamps.lamps 4 { running.lamps.lamps[4] with redLossDeclared := true } }

theorem witness_RedLossTaken :
    redLossWaits.loading = false ∧ redLossWaits.lamps.lamps[coreOf 1 .R].redLossDeclared = true ∧
    redLossWaits.engine.groups[1].redLost ≠ true ∧
    running.engine.groups[1].redLost = running.lamps.lamps[coreOf 1 .R].redLossDeclared := by decide

theorem test_red_loss_ends_a_conflicting_green :
    after (.redLossChange 1) redLossWaits (fun t => (t.engine.groups[0].state, t.engine.groups[0].inhibited)) =
      some (.amber, true) := by decide

/-! ### Plans and synchronisation -/

/-- Two stages of a WRITE_PLAN. -/
def twoStages : List StageArgs :=
  [{ set := groupsOf [1], endPoint := 300, stageMin := 600, stageMax := 1200, demandDependent := 0, elastic := 1 },
   { set := groupsOf [2], endPoint := 2399, stageMin := 0, stageMax := 0, demandDependent := 1, elastic := 0 }]

/-- The staging record of a seven-stage plan 8. -/
def staged8 : PlanStaging := { plan := 7, cycle := 2400, offset := 0, sync := 0, dim := 0, count := 7, stages := [] }

theorem witness_WritePlanTaken :
    ready.loading = false ∧ ready.saving = false ∧ ready.seq.inForce = 0 ∧ (saving ready).saving = true ∧
    (ready.seq.inForce ≠ 7 ∧ ready.seq.pendingPlan ≠ some 7 ∧ 6 < 7 ∧ 6 ≤ 6) ∧
    ({ ready with seq.staging := some staged8 } : State).seq.staging = some staged8 ∧
    (staged8.plan = 7 ∧ 6 < staged8.count ∧ ready.seq.staging = none) ∧
    (wholePlan 2400 2399 1 0 2 twoStages).isSome = true := by decide

theorem witness_PlanRequestsTaken :
    ready.loading = false ∧ ready.seq.plans[0].validity = .invalid ∧
    ((planned running).seq.plans[0].validity = .valid ∧ isRunning running.engine.mode = true) ∧
    ((planned ready).seq.plans[0].validity = .valid ∧ isRunning ready.engine.mode = false) ∧
    (1 + 1 ≤ (planned ready).seq.plan.count ∧ (planned ready).seq.plan.count < 3) ∧
    (running.engine.mode = .run ∧ held.engine.mode ≠ .run) := by decide

theorem witness_SubstitutionsTaken :
    ready.loading = false ∧ (0 : EntryId) ≠ 1 ∧ (saving ready).saving = true ∧ ready.saving = false ∧
    (1 ≤ 12 ∧ 12 ≤ 12 ∧ 600 ≤ 600 ∧ 600 ≤ 1200 ∧ 1200 ≤ 1200 ∧ 1 ≤ 1) := by decide

/-- Plan 1 in force with an entry enabled for its stage 2. -/
def replaced : State :=
  { planned running with seq.substs := put running.seq.substs 1 (SubstEntry.mk 0 2 (groupsOf [3]) 50 200 true true) }

/-- R79: the entry gives the running stage its set, its timings and its demand flag. -/
theorem test_replacement_formed :
    (replaced.seq.form 2).set = groupsOf [3] ∧ (replaced.seq.form 2).stageMax = 200 ∧
    (replaced.seq.form 2).substituted = true ∧ (replaced.seq.form 1).substituted = false := by decide

theorem witness_SubstitutionsTaken_matching :
    replaced.seq.substs[1].enabled = true ∧ replaced.seq.substs[1].plan = replaced.seq.inForce ∧
    replaced.seq.substs[1].stage = 2 ∧ 2 ≤ replaced.seq.plan.count ∧ replaced.seq.substs[0].enabled = false := by decide

/-- RUN at the maximum of stage 1, with stage 2 demand-dependent or not. -/
def stageEnding (dependent : Bool) : State :=
  { planned running with
    seq.plans := put running.seq.plans 0
      { plan900 with stages := put plan900.stages 1 { stageOf [2] 600 with demandDependent := dependent } }
    seq.state := .timing
    seq.stageTimer := 499
    seq.running := { RunningStage.initial with stageMax := 500 } }

/-- RUN one decisecond before the wrap, with a plan pending or not. -/
def wrapping (pending : Option PlanId) : State :=
  { planned running with seq.cycleTimer := 899, seq.pendingPlan := pending }

theorem witness_TickMovesSequence :
    ready.loading = false ∧ ready.seq.plan.cycle = 0 ∧
    ((planned held).seq.cycleTimer < (planned held).seq.plan.cycle ∧ held.engine.mode = .held) ∧
    ((wrapping none).engine.mode = .run ∧ (wrapping none).seq.plan.cycle ≤ (wrapping none).seq.cycleTimer + 1 ∧
      (wrapping none).seq.correction.state = .none ∧ (wrapping none).seq.pendingPlan = none) ∧
    (wrapping (some 0)).seq.pendingPlan = some 0 ∧
    (let s := { wrapping none with seq.correction.state := .applying, seq.correction.remaining := 2 }
     s.seq.correction.state = .applying ∧ 1 < s.seq.correction.remaining) := by decide

theorem witness_TickMovesSequence_ending :
    after .sequencerTick (stageEnding false) (fun t => (t.seq.stageIndex, t.seq.state, t.seq.deferred)) =
      some (2, .awaiting, false) ∧
    after .sequencerTick (stageEnding true) (fun t => (t.seq.stageIndex, t.seq.state, t.seq.deferred)) =
      some (1, .timing, true) ∧
    (let s := { stageEnding true with
       seq.deferred := true
       seq.running := { RunningStage.initial with endPoint := 300, stageMax := 500 } }
     after .sequencerTick s (fun t => (t.seq.state, t.seq.deferred)) = some (.timing, true)) ∧
    after .sequencerTick { wrapping none with seq.deferred := true } (fun t => t.seq.deferred) = some false ∧
    after .sequencerTick { planned held with seq.deferred := true } (fun t => t.seq.deferred) = some true ∧
    (let s := { planned running with seq.sync.watch := .running, engine.clock := 2700#32 }
     after .sequencerTick s (fun t => t.seq.sync.watch) = some .expired) := by decide

theorem test_tick_wraps :
    after .sequencerTick { planned running with seq.cycleTimer := 899 } (fun t => t.seq.cycleTimer) = some 0 := by decide

/-- The sync filter in RISING. -/
def rising (s : State) : State := { planned s with seq.sync.filter := .rising }

theorem witness_SyncTaken :
    running.loading = false ∧ ((rising ready).seq.sync.filter = .rising ∧ isRunning ready.engine.mode = false) ∧
    ((rising running).seq.sync.filter = .rising ∧ isRunning running.engine.mode = true ∧
      (rising running).seq.plan.sync = true ∧ 0 < (rising running).seq.plan.cycle) ∧
    (let s := { planned running with seq.sync.watch := .running, engine.clock := 2700#32 }
     s.seq.sync.watch = .running ∧ 3 * s.seq.plan.cycle ≤ elapsed s.engine.clock s.seq.sync.watchStart) ∧
    (let s := { running with seq.correction.state := .applying }
     s.seq.correction.state = .applying ∧ s.seq.correction.remaining = 0) := by decide

theorem test_pulse_measured :
    after .countedPulse { rising running with seq.cycleTimer := 190 } (fun t =>
      (t.seq.sync.lastError, t.seq.correction.state, t.seq.correction.direction, t.seq.correction.amount)) =
      some (60, .stored, .shorten, 60) := by decide

/-! ### Lamps -/

theorem witness_ScanWritten :
    isStopped running.engine.mode = false ∧ (isStopped ready.engine.mode = true ∧ (saving ready).saving = true) ∧
    (ready.saving = false ∧ 1 = codeOf scanModes .fourRow ∧ ready.lamps.scanMode = .fourRow ∧
      0 = codeOf scanModes .threeRow) := by decide

theorem witness_LampWritten :
    (saving ready).saving = true ∧ ready.saving = false ∧ 0 = codeOf lampTypes .filament ∧
    (notFitted (ready.typeOf (groupOf 0)) (letterOf 0) = true ∧
      notFitted (running.typeOf (groupOf 0)) (letterOf 0) = false) ∧
    (ready.fitted 0 = 0 ∧ 0 < (lamped ready).fitted 0 ∧ (lamped ready).lamps.scanMode ≠ .threeRow) ∧
    (let s := { lamped ready with cable.flight := some (flight1 .positive none) }
     0 ≠ s.fitted 0 ∧ 1 ≠ s.fitted 0 ∧ (flight1 .positive none).core = 0 ∧
     (∀ f, (lamped ready).cable.flight = some f → f.core ≠ 0)) := by
  refine ⟨by decide, by decide, by decide, by decide, by decide, by decide, by decide, by decide, ?_⟩
  intro f h
  cases h

/-- R121, R136, R141: a lamp taken away under its test ends the test, and the answer is OK. -/
theorem test_write_lamp_ends_a_test :
    after (.writeLamp 1 0 0 1600 960 0 4 0) { lamped ready with cable.flight := some (flight1 .positive none) } (fun t =>
      (statusOf .plan t, t.cable.flight, t.cable.records[0].cls)) = some (some .ok, none, .interrupted) := by decide

theorem witness_ZeroCrossTaken :
    (let s := { ready with lamps.scanState := .scanning, uptimeMs := 5 }
     s.loading = false ∧ s.lamps.scanState = .scanning ∧ elapsed s.nowMs s.lamps.lastZeroCross < 6) ∧
    ready.lamps.scanState = .suspended ∧
    (let s := { ready with lamps.scanState := .scanning, lamps.slotIndex := 1, uptimeMs := 6 }
     6 ≤ elapsed s.nowMs s.lamps.lastZeroCross ∧ 1 ≤ s.lamps.slotIndex ∧
     s.lamps.slotIndex < slotsOf s.lamps.scanMode) ∧
    (let s := { ready with lamps.scanState := .scanning, lamps.slotIndex := 4, uptimeMs := 6 }
     6 ≤ elapsed s.nowMs s.lamps.lastZeroCross ∧ s.lamps.slotIndex = slotsOf s.lamps.scanMode) := by decide

theorem witness_ZeroCrossTaken_order :
    (let s := { ready with lamps.scanState := .scanning, lamps.slotIndex := 0, uptimeMs := 6 }
     s.lamps.slotIndex = 0 ∧ 6 ≤ elapsed s.nowMs s.lamps.lastZeroCross) ∧
    (waiting ready [.sequencerTick, .aspectLevelChange 0 true]).outbox =
      [.sequencerTick] ++ .aspectLevelChange 0 true :: [] ∧
    (∀ b', Instr.aspectLevelChange 0 b' ∉ [Instr.sequencerTick]) ∧
    (∀ b, Instr.aspectLevelChange 0 b ∉ ready.outbox) := by decide

/-- R99: a slot start taken before a change of level that is on its way latches the old level. -/
theorem test_slot_start_first_latches_the_old_level :
    (let s := waiting { ready with engine.aspects := put ready.engine.aspects 0 { command := .steady, lit := true } }
       [.aspectLevelChange 0 true]
     after (.zeroCross (readingsOf 0)) s (fun t => t.lamps.scan[0].latched)) = some .dark := by decide

/-- R98, R100, R102: slot 2 selects row A, a change of scan mode keeps the row, and a suspension selects row R. -/
theorem test_row_select_follows_the_slot :
    (let s := { ready with lamps.scanState := .scanning, lamps.slotIndex := 1, uptimeMs := 6 }
     let t := settled s (exec (.zeroCross (readingsOf 0)) s)
     (t.lamps.rowSelect, after (.writeScan 0 3 40) t fun u => (u.lamps.rowSelect, u.lamps.slotIndex),
      after .scanSuspend t fun u => u.lamps.rowSelect)) = (.A, some (.A, 0), some .R) := by decide

theorem test_zero_cross_starts_scanning :
    after (.zeroCross (readingsOf 0)) ready (fun t => (t.lamps.slotIndex, t.lamps.scan[0].latched, t.lamps.scan[0].settle)) =
      some (1, .dark, 2) := by decide

theorem witness_ReadingsJudged :
    (let u := { ready.lamps with
       scan := put ready.lamps.scan 0 { ready.lamps.scan[0] with reading := some { raw := 0, senseOpen := true } } }
     u.scan[0].reading = some { raw := 0, senseOpen := true }) ∧
    (lamp5R.bright = 4000 ∧ lamp5R.fitted < estimate 400 4000 * 2 ∧ lamp5R.fitted < estimate 750 4000 ∧
      estimate 128 4000 ≤ lamp5R.fitted ∧ 4000 * 4 < 16 * ((16 * 128 : Int) - 1 * 4000).natAbs ∧
      16 * ((16 * 250 : Int) - 1 * 4000).natAbs ≤ 4000 * lamp5R.tolerance) := by decide

theorem witness_ReadingsJudged_work :
    (let s := { lamped ready with
       lamps.scan := put ready.lamps.scan 0 { ready.lamps.scan[0] with reading := some { raw := 0, senseOpen := false } } }
     s.lamps.scan[0].reading = some { raw := 0, senseOpen := false } ∧ s.lamps.classify 0 = .darkOk) ∧
    (ready.lamps.scan[0].reading = none ∧ ready.lamps.lamps[0].fitted = 0 ∧ ready.lamps.classify 0 = .unscanned) ∧
    (lamp5R.learn = .none ∧ ({ lamp5R with learn := .litPending } : Lamp).learn = .litPending ∧
      ({ lamp5R with learn := .darkPending } : Lamp).learn ≠ .none) ∧
    (∀ b, Instr.dimChange b ∉ ready.outbox) ∧
    ((waiting ready [.dimChange true]).outbox = [] ++ .dimChange true :: [] ∧
      (waiting ready [.dimChange true]).seenDim = false) := by decide

theorem witness_LampNoticesTaken :
    ready.loading = false ∧ NoticeBlock.sequencer ≠ .lampUnit ∧ ready.lamps.scanState = .suspended ∧
    ({ ready with lamps.scanState := .scanning } : State).lamps.scanState = .scanning := by decide

/-! ### Cable testing -/

theorem witness_SelectionTaken :
    (ready.cable.enabled = false ∧ (testing [] (some (flight1 .positive none))).cable.flight ≠ none) ∧
    (let s := testing [entryFor 5 false false, entryFor 0 false false] none
     s.cable.enabled = true ∧ s.cable.flight = none ∧
     s.cable.queue = [entryFor 5 false false] ++ entryFor 0 false false :: [] ∧
     (∀ x ∈ [entryFor 5 false false], s.eligible x.core = false) ∧ s.eligible 0 = true) ∧
    (let s := { testing [] none with
       cable.cyclicRunning := true
       cable.intervalPassed := true
       cable.pointer := 1
       cable.testSet := coresOf [1, 2, 3] }
     s.cable.pointer ≤ 64 ∧ s.cable.testSet[1] = true ∧ s.eligible 1 = true ∧
     ∀ d : CoreId, s.cable.testSet[d] = true → s.eligible d = true →
       (1 + 64 - s.cable.pointer) % 64 ≤ (d.val + 64 - s.cable.pointer) % 64) ∧
    (let s := testing [entryFor 5 false false] none
     (∀ x ∈ s.cable.queue, s.eligible x.core = false) ∧ s.cable.cyclicRunning = false) := by decide

theorem witness_TestUnitCommanded :
    (saving ready).saving = true ∧ ready.saving = false ∧ ready.cable.enabled = false ∧
    (testing [] none).cable.enabled = true ∧
    (let s := { testing [] (some (flight1 .positive none)) with cable.cyclicRunning := true, cable.stopWaiting := true }
     s.cable.enabled = true ∧ s.cable.cyclicRunning = true ∧ s.cable.flight ≠ none ∧ s.cable.stopWaiting = true) ∧
    (let s := { testing [] none with cable.cyclicRunning := true }
     s.cable.flight = none ∧ s.cable.cyclicRunning = true) ∧
    (testing [] none).cable.cyclicRunning = false := by decide

/-- R132: an interval that has run already is passed at once, in a disabled unit too. -/
theorem test_interval_judged_when_disabled :
    after (.testInterval 3) { ready with uptimeMs := 3000 }
      (fun t => (t.cable.interval, t.cable.intervalPassed, t.cable.intervalTimer)) = some (3, true, false) ∧
    after (.testInterval 4) { ready with uptimeMs := 3000 } (fun t => t.cable.intervalPassed) = some false := by decide

theorem witness_QueueFilled :
    ready.cable.enabled = false ∧
    (let s := testing [] none
     s.cable.enabled = true ∧ 0 < s.fitted 0 ∧ s.fitted 63 = 0 ∧ s.cable.queue.length < 8 ∧
     ∀ e ∈ s.cable.queue, e.core ≠ 0) ∧
    (∃ e ∈ (testing [entryFor 0 false false] none).cable.queue, e.core = 0) ∧
    (let s := testing ((List.range 8).map fun k => entryFor (Fin.ofNat 64 (k + 1)) false false) none
     8 ≤ s.cable.queue.length ∧ ∀ e ∈ s.cable.queue, e.core ≠ 0) := by decide

/-- The core 1 queue test in a phase whose timer started at 0 ms. -/
def phaseAt (ms : Nat) (phase : TestPhase) (positive : Option Int) : State :=
  { testing [entryFor 0 true true] (some (flight1 phase positive)) with uptimeMs := ms }

theorem witness_TestsRun :
    (let s := phaseAt 200 .positive none
     s.loading = false ∧ s.cable.flight = some (flight1 .positive none) ∧ (flight1 .positive none).phase = .positive ∧
     200 ≤ elapsed s.nowMs (flight1 .positive none).phaseStart) ∧
    elapsed (phaseAt 199 .positive none).nowMs (flight1 .positive none).phaseStart < 200 ∧
    ((flight1 .negative (some 146)).phase = .negative ∧ (flight1 .negative (some 146)).positive = some 146) ∧
    (1 : CoreId) ≠ (flight1 .positive none).core := by decide

theorem witness_TestsRun_abort :
    (let s := testing [entryFor 5 true false, entryFor 0 true true] (some (flight1 .positive none))
     (flight1 .positive none).source = .queue ∧ s.cable.queue = [entryFor 5 true false] ++ entryFor 0 true true :: [] ∧
     (∀ x ∈ [entryFor 5 true false] ++ [], x.core ≠ (flight1 .positive none).core) ∧
     after (.energiseNotice 0) s (fun t => t.cable.queue) =
       some [entryFor 0 false false, entryFor 5 true false]) ∧
    ({ flight1 .positive none with source := .cyclic } : Flight).source = .cyclic := by decide

theorem witness_TestsRun_no_flight :
    ready.cable.flight = none ∧ (flight1 .negative (some 146)).phase = .negative ∧
    (flight1 .positive none).phase = .positive := by decide

/-- R138: a phase ends once its 200 ms have run, and not before. -/
theorem test_phase_takes_200_ms :
    after (.positivePhaseEnd 146) (phaseAt 199 .positive none) (fun t => t.cable.flight.map fun f => f.phase) =
      some (some .positive) ∧
    after (.positivePhaseEnd 146) (phaseAt 200 .positive none) (fun t =>
      t.cable.flight.map fun f => (f.phase, f.positive, f.phaseStart)) = some (some (.negative, some 146, 200#32)) ∧
    (phaseAt 199 .positive none).expired = [] := by decide

/-- R138: an idle step takes the phase's end with a current that nothing fixes. -/
theorem test_idle_step_ends_a_phase :
    (phaseAt 200 .positive none).expired = [.positivePhaseEnd (Config.testCurrent 0)] ∧
    (phaseAt 200 .negative (some 146)).expired = [.testCompletion (Config.testCurrent 0)] := ⟨rfl, rfl⟩

theorem test_completion_of_3G :
    after (.testCompletion (-118)) (phaseAt 200 .negative (some 146)) (fun t =>
      (t.cable.records[0].cls, t.cable.records[0].leakage, t.cable.records[0].offset, t.cable.queue.length)) =
      some (.valid, 132, 14, 0) := by decide

theorem witness_CableTimersTaken :
    ({ ready with cable.intervalTimer := true } : State).cable.intervalTimer = true ∧
    (let s := testing [entryFor 0 true false, entryFor 1 false false] none
     (entryFor 0 true false) ∈ s.cable.queue ∧ (entryFor 1 false false) ∈ s.cable.queue ∧
     (s.cable.queue.map fun x => x.core).Nodup ∧ (entryFor 0 true false).seenEligible = true ∧
     (entryFor 1 false false).seenEligible = false) ∧
    AspectCommand.steady ≠ .off := by decide

/-! ### Qualifiers -/

/-- The part with qualifier 1 armed: B after A on the lamp count of core 1. -/
def armed : State :=
  { ready with
    quals := put ready.quals 0
      { ready.quals[0] with
        source := .lampProven
        a := { limit := 1, condition := .below }
        b := { limit := 1, condition := .above }
        combine := .bAfterA
        aSeen := true
        state := .armed } }

/-- A frame in which core 1 is LIT with two lamps proven. -/
def twoProven : Vector AspectResult 64 :=
  put (Vector.replicate 64 { cls := .unscanned, raw := 0, net := 0, proven := 0 }) 0
    { cls := .lit, raw := 500, net := 500, proven := 2 }

theorem witness_QualifiersCommanded :
    (saving ready).saving = true ∧ ready.saving = false ∧ ready.loading = false ∧ armed.quals[0].state = .armed ∧
    ready.quals[0].state ≠ .armed ∧ (1 ≤ 255 ∧ 255 ≤ 255) := by decide

theorem witness_QualifiersEvaluated :
    armed.loading = false ∧ armed.quals[0].state = .armed ∧ armed.quals[1].state ≠ .armed ∧
    frameValue twoProven armed.quals[0] = some 2 ∧ cableValue 0 .valid 5 6 ready.quals[0] = some 5 ∧
    armed.quals[0].b.holds 2 = true ∧ armed.quals[0].remaining = 0 ∧ armed.faults.records.length + 4 ≤ 32 := by decide

theorem test_b_after_a_fires :
    after (.lampFrameResult twoProven) armed (fun t => (t.quals[0].state, t.faults.records.length)) =
      some (.fired, 1) := by decide

/-! ### Faults and history -/

theorem witness_FaultsKept :
    (faulty []).loading = false ∧ (faulty []).faults.wf ∧ suits .lampOut (.aspect 63) = true ∧
    (faulty [faultOf .lampOut (.aspect 63) .inactive true]).faults.records =
      [] ++ faultOf .lampOut (.aspect 63) .inactive true :: [] ∧
    (faulty []).faults.records.length < 32 := by decide

theorem witness_FaultsKept_no_record :
    (∀ r ∈ (faulty []).faults.records, (r.kind, r.subject) ≠ (.forced, .none)) ∧ suits .forced .none = true ∧
    ((15 ≤ 15 ∧ 15 ≠ 255) ∧ (9 ∈ [0, 1, 3, 4, 5, 8, 9] ∧ 64 < 65) ∧ 16 < 17 ∧ 4 < 5 ∧ 14 ∈ [11, 12, 13, 14]) := by decide

theorem witness_FaultsKept_full :
    (faulty (fullTable .active)).faults.records.length = 32 ∧
    (∀ r ∈ (faulty (fullTable .active)).faults.records, (r.kind, r.subject) ≠ (.lampOut, .aspect 63)) ∧
    (∀ o ∈ (faulty (fullTable .active)).faults.records, o.state = .active ∨ o.kind = .conflictObserved) ∧
    (faulty (fullTable .inactive)).faults.records.head?.map (fun r => (r.state, r.kind)) =
      some (.inactive, .lampOut) := by decide

theorem witness_HistoryServed :
    ring16.loading = false ∧ ring16.history.wf ∧ ring16.history.cursors.at .maintenance = ring16.history.next ∧
    (∃ e ∈ ring16.history.ring, e.sequence = ring16.history.cursors.at .monitor) ∧
    ring16.history.ring.length = 16 ∧ 16 < (ring16.history.next - ring16.history.cursors.at .plan).toNat := by decide

/-! ### Contactor, store and ports -/

theorem witness_ContactorChecked :
    ready.loading = false ∧ ready.engine.feedbackClosed = false ∧ true ≠ ready.engine.contactorClosed ∧
    (let s := { ready with engine.feedbackClosed := true }
     s.engine.feedbackClosed ≠ false ∧ false = s.engine.contactorClosed) ∧
    ({ ready with engine.contactorTimer := some 0#32 } : State).engine.contactorTimer ≠ none ∧
    ready.engine.contactorTimer = none := by decide

theorem witness_ContactorChecked_line :
    (isStopped (planned ready).engine.mode = true ∧ (planned ready).seq.plan.validity = .valid ∧
      (planned ready).saving = false ∧ (planned ready).faults.records = []) ∧
    isRunning running.engine.mode = true ∧ running.engine.mode ≠ .supplyOff ∧ running.engine.mode ≠ .dark ∧
    (ready.engine.contactorClosed ≠ true ∧ ready.engine.feedbackClosed ≠ true) ∧
    ({ ready with engine.feedbackClosed := true } : State).engine.feedbackClosed = true ∧
    ready.engine.contactorClosed = false := by decide

/-- R17, R18: RESTART closes the line while the feedback reads open, and the 500 ms timer starts. -/
theorem test_restart_starts_the_contactor_timer :
    after .restart (planned ready) (fun t => (t.engine.contactorClosed, t.engine.contactorTimer)) =
      some (true, some (planned ready).nowMs) := by decide

/-- A save with one write left to make. -/
def lastWrite : State := { saving ready with store.toWrite := [{ place := 1, bytes := [7#8] }], store.memory := [1#8, 2#8, 3#8] }

theorem witness_StoreMoves :
    State.reset.loading = true ∧ ready.loading = false ∧ ready.saving = false ∧ (saving ready).saving = true ∧
    (judgeImage []).isSome = false ∧ State.reset.store.timer ≤ 2500 ∧
    ¬ ({ State.reset with store.timer := 2501 } : State).store.timer ≤ 2500 ∧
    (lastWrite.saving = true ∧ lastWrite.pending = [] ∧ lastWrite.outbox = [] ∧ lastWrite.expired = [] ∧
      lastWrite.uptimeMs % 100 ≠ 99) ∧
    (ready.store.state = .idle ∧ State.reset.store.state = .loading ∧ (saving ready).store.state = .saving) ∧
    (∀ p : PlanId, ready.seq.plans[p].validity = .invalid) := by decide

/-- R175, R176: the header INCOMPLETE stands in the memory from the event that takes SAVE_STORE on. -/
theorem test_save_marks_incomplete_at_once :
    after .saveStore { ready with store.memory := [0#8, 0x37#8, 8#8, 5#8] }
      (fun t => (t.store.memory, t.store.toWrite.map fun w => w.place)) =
      some ([1#8, 0x37#8, 8#8, 5#8], [3, 2101, 0]) := by decide

theorem witness_StoreMoves_image : ∃ m, judgeImage Image.default.bytes = some m := ⟨_, judgeImage_bytes _⟩

theorem test_save_writes_in_order :
    (Image.default.writes.map fun w => w.place) = [0, 3, 2101, 0] ∧
    (imageHeader .incomplete, imageHeader .complete) = ([1#8, 0x37#8, 8#8], [0#8, 0x37#8, 8#8]) ∧
    (match step lastWrite with
     | .next t => t.store.memory
     | _ => []) = [1#8, 7#8, 3#8] := by decide

/-- A frame for DEMAND 2 but for its check byte. -/
def demandFrame : List Byte := [0xA5#8, 20#8, 1#8, 2#8]

theorem witness_FramesAnswered :
    (let s := withPort (portIn .receiving demandFrame)
     let r := s.ports.at .plan
     s.loading = false ∧ r.state = .receiving ∧ r.shadow = [] ∧ r.ignoring = false ∧ expectsCheck r.received = true) ∧
    byteSum (demandFrame.drop 1 ++ [0#8]) ≠ 0#8 ∧ byteSum (demandFrame.drop 1 ++ [0xE9#8]) = 0#8 ∧
    permitted 20 .plan = true ∧ permitted 3 .plan = false ∧ readRequest 20 .plan none [2#8] = some (.demand 2) ∧
    readRequest 20 .plan none [2#8, 3#8] = none ∧ 54 < 55 := by decide

/-- Part 2 of a WRITE_PLAN behind a staged plan 2 of eight stages: two stage records. -/
def stagedTwo : PlanStaging :=
  { plan := 1, cycle := 900, offset := 0, sync := 0, dim := 0, count := 8, stages := [] }

/-- R172: payloads by their required lengths. -/
theorem witness_FramesAnswered_payloads :
    readRequest 37 .maintenance none [60#8] = some (.testInterval 60) ∧
    readRequest 4 .plan none [0x58#8, 2#8, 30#8, 0#8] = some (.writeStartTimes 600 30) ∧
    readRequest 9 .plan none [] = some (.step .plan none) ∧ readRequest 9 .plan none [3#8] = some (.step .plan (some 3)) ∧
    (readRequest 17 .plan none ([1#8, 1#8, 132#8, 3#8, 0#8, 0#8, 0#8, 0#8, 0#8])).isSome = true ∧
    (readRequest 17 .plan (some stagedTwo) ([2#8, 2#8] ++ List.replicate 20 0#8)).isSome = true ∧
    readRequest 17 .plan (some stagedTwo) ([2#8, 2#8] ++ List.replicate 10 0#8) = none ∧
    (readRequest 17 .plan (some stagedTwo) ([2#8, 3#8] ++ List.replicate 10 0#8)).isSome = true ∧
    readRequest 17 .plan none [3#8, 9#8] = some (.writePlan (.other 3)) := by decide

theorem test_demand_frame_taken :
    after (.incomingByte .plan 0xE9#8) { planned ready with ports.plan := portIn .receiving demandFrame }
      (fun t => (statusOf .plan t, t.seq.demands[1])) = some (some .ok, true) := by decide

theorem witness_PortBytesTaken :
    (ready.loading = false ∧ (ready.ports.at .plan).ignoring = false ∧ (ready.ports.at .plan).shadow = [] ∧
      (ready.ports.at .plan).state = .idle) ∧
    ((portIn .receiving [0xA5#8, 20#8]).received.length = 2 ∧ 96 < (97#8).toNat) ∧
    ((portIn .receiving [0xA5#8]).received.length ≠ 2 ∧ expectsCheck (portIn .receiving [0xA5#8]).received = false) ∧
    (portIn .responding []).state = .responding ∧ (portIn .discarding []).state = .discarding ∧
    (let r := { portIn .responding [] with shadow := [0xA5#8, 20#8, 0#8] }
     r.shadow ≠ [] ∧ r.shadow.length ≠ 2 ∧ expectsCheck r.shadow = true) ∧
    ({ portIn .responding [] with shadow := [0xA5#8, 20#8] } : PortRecord).shadow.length = 2 ∧
    ({ portIn .idle [] with ignoring := true } : PortRecord).ignoring = true ∧ Port.plan ≠ .maintenance ∧
    (let r := { portIn .responding [] with shadow := [0xA5#8, 20#8] }
     r.shadow ≠ [] ∧ r.shadow.length = 2 ∧ (96#8).toNat ≤ 96 ∧ expectsCheck r.shadow = false) := by decide

/-- R172: the response to a DEMAND, OK with overrun set, by hand: 0x14 + 0x80 + 0x6C is 0 modulo 256. -/
theorem test_response_bytes_shifted_out :
    (let a : Response := { code := 20#8, status := .ok, overrun := true, payload := [] }
     let r := { portIn .responding [] with response := some a, sending := true }
     (List.range 6).map (fun k => ({ r with shifted := k } : PortRecord).shift.dataOut) =
       [0x5A#8, 0x14#8, 0x80#8, 0x00#8, 0x6C#8, 0x00#8] ∧
     { r with shifted := 5 }.sentWhole = true) := by decide

theorem witness_ReadsAnswered :
    ready.loading = false ∧ Port.monitor ≠ .plan ∧ (1 ≤ 32 ∧ 32 ≤ 32) ∧
    (∀ g : GroupId, noGroups[g] = ready.engine.groups[g].inhibited ∧ noGroups[g] = ready.engine.groups[g].withheld) := by
  decide

/-- R145, R172: the fields of READ_TEST_UNIT in order, by hand: the unit, one queue entry, the test on core 1, the clock. -/
theorem test_read_test_unit_payload :
    after (.readTestUnit .plan) (testing [entryFor 0 true true] (some (flight1 .positive none)))
      (fun t => t.ports.plan.response.map fun r => r.payload) =
      some (some ([1#8, 1#8, 0#8, 0#8] ++ List.replicate 8 0#8 ++ [5#8, 0#8] ++ List.replicate 4 0#8 ++ [0#8] ++
        ([1#8, 0#8] ++ List.replicate 4 0#8 ++ [1#8, 1#8]) ++ ([1#8, 0#8, 0#8] ++ List.replicate 4 0#8) ++
        List.replicate 4 0#8)) := by decide

/-- R163, R172: READ_FAULTS with one RED_LOST record of group 5, by hand. -/
theorem test_read_faults_payload :
    after (.readFaults .plan 1) (faulty [faultOf .redLost (.group 4) .active true])
      (fun t => t.ports.plan.response.map fun r => r.payload) =
      some (some ([1#8, 0#8, 1#8] ++ ([1#8, 2#8, 5#8, 3#8] ++ List.replicate 8 0#8 ++ [1#8]) ++
        List.replicate 4 0#8)) := by decide

theorem test_read_snapshot_has_72_bytes :
    after (.readSnapshot .monitor) ready (fun t => t.ports.monitor.response.map fun r => r.payload.length) =
      some (some 72) := by decide

end Sys2Proof.Tests
end

