-- ==== Sys2Proof/Proofs/RestartRefusals.lean ====
section
/-! The refusals of RESTART in their order (R22): the answers of a block as the port sees them, the records the fault table
holds, and the chain of tests. -/

namespace Sys2Proof.Machine

/-- A refusal, once answered, has changed nothing but its port (R169). -/
theorem respond_refuse (p : Port) (code : Nat) (status : Status) (s : State) :
    (refuse status s).1.respond p code (refuse status s).2 = s.refusedWith p code status := rfl

/-- A request taken with no fields to give back is answered OK with an empty payload (R169). -/
theorem respond_okay (p : Port) (code : Nat) (s : State) :
    (okay s).1.respond p code (okay s).2 = s.ok p code [] := rfl

theorem FaultTable.holds_iff {kind : FaultKind} {which : FaultRecord → Bool} {t : FaultTable} :
    t.holds kind which = true ↔ ∃ r ∈ t.records, r.kind = kind ∧ which r = true := by
  simp [FaultTable.holds]

/-- RESTART may come from the monitor port, so once the image is loaded the engine takes and answers it (R22, R171). -/
theorem exec_restart {s : State} (h : s.loading = false) :
    exec .restart s = .next ((reqRestart s).1.respond .monitor 3 (reqRestart s).2) :=
  congrArg Host.Outcome.next (serve_permitted h rfl)

/-- The engine's five tests as R22 words them: the last two speak of the records in the fault table. -/
theorem reqRestart_eq (s : State) :
    reqRestart s =
      if isStopped s.engine.mode = false then refuse .wrongMode s
      else if s.seq.plan.validity = .invalid then refuse .wrongMode s
      else if s.saving = true then refuse .wrongMode s
      else if ∃ r ∈ s.faults.records, r.kind = .conflictObserved then refuse .blocked s
      else if ∃ r ∈ s.faults.records, r.kind = .senseFault ∧ r.state = .active then refuse .blocked s
      else okay s.restartJunction := by
  simp only [reqRestart, FaultTable.holds_iff, Bool.not_eq_true', beq_iff_eq, and_true]

/-- Settles O25: the engine's chain of tests, answered test by test. -/
theorem restartRefusals : Obligations.RestartRefusals := by
  intro s loaded
  rw [exec_restart loaded, reqRestart_eq]
  split_ifs
  case neg => rw [respond_okay]
  all_goals rw [respond_refuse]

end Sys2Proof.Machine
end

section
/-! The four parts of WRITE_INTERGREENS (R44, R45): the order of its refusals, the rows that a part leaves staged, and the
check of the whole table at part 4. -/

namespace Sys2Proof.Machine

/-! ## The check of a whole table -/

/-- The check asks the intergreen inequality of every pair that conflicts, in both orders (R41). -/
theorem intergreensSound_iff {matrix : Vector GroupSet 16} {ig : GroupId → GroupId → Nat} {groups : Vector Group 16} :
    intergreensSound matrix ig groups = true ↔
      ∀ i j : GroupId, conflictUnder matrix (fun g => groups[g].type) i j = true →
        groups[i].ending + groups[j].redAmber ≤ ig i j := by
  simp [intergreensSound, allGroups, intergreenCovers, imp_iff_not_or]

/-- The staged table is the one table whose rows are the staged rows in order. -/
theorem stagedTable_eq_of_rows {rows : List IgRow} {table : Vector IgRow 16}
    (h : ∀ i : GroupId, table[i] = rows.getD i.val (Vector.replicate 16 0#8)) : stagedTable rows = table := by
  ext1 i hi
  rw [stagedTable, Vector.getElem_ofFn]
  exact (h ⟨i, hi⟩).symm

/-! ## The staging record -/

/-- Part 1 begins a new table whatever was staged. -/
theorem ConflictTable.stage_one (rows : List IgRow) (t : ConflictTable) :
    t.stage 1 rows = { t with stagedRows := rows, stagedParts := 1 } := rfl

/-- A later part adds its rows to those staged. -/
theorem ConflictTable.stage_of_ne_one {k : Nat} (hk : k ≠ 1) (rows : List IgRow) (t : ConflictTable) :
    t.stage k rows = { t with stagedRows := t.stagedRows ++ rows, stagedParts := k } := by
  rw [ConflictTable.stage, if_neg hk]

theorem completeIntergreens_eq (rows : List IgRow) (s : State) :
    s.completeIntergreens rows =
      if intergreensSound s.conflicts.matrix
          (fun i j => (stagedTable (s.conflicts.stagedRows ++ rows))[i][j].toNat) s.engine.groups then
        okay (s.onConflicts fun t =>
          { t with intergreens := stagedTable (s.conflicts.stagedRows ++ rows), stagedRows := [], stagedParts := 0 })
      else refuse .range (s.onConflicts fun t => { t with stagedRows := [], stagedParts := 0 }) := rfl

/-- A table that keeps the inequality of every conflicting pair replaces the one in force (R45). -/
theorem completeIntergreens_of_sound {s : State} {rows : List IgRow} {table : Vector IgRow 16}
    (staged : stagedTable (s.conflicts.stagedRows ++ rows) = table)
    (sound : ∀ i j : GroupId, s.conflict i j = true →
      s.engine.groups[i].ending + s.engine.groups[j].redAmber ≤ (table[i][j]).toNat) :
    s.completeIntergreens rows =
      okay (s.onConflicts fun t => { t with intergreens := table, stagedRows := [], stagedParts := 0 }) := by
  rw [completeIntergreens_eq, staged, if_pos (intergreensSound_iff.mpr sound)]

/-- A table that breaks the inequality of a conflicting pair is refused, and the table in force stays (R45). -/
theorem completeIntergreens_of_unsound {s : State} {rows : List IgRow} {table : Vector IgRow 16}
    (staged : stagedTable (s.conflicts.stagedRows ++ rows) = table)
    (broken : ∃ i j : GroupId, s.conflict i j = true ∧
      (table[i][j]).toNat < s.engine.groups[i].ending + s.engine.groups[j].redAmber) :
    s.completeIntergreens rows =
      refuse .range (s.onConflicts fun t => { t with stagedRows := [], stagedParts := 0 }) := by
  obtain ⟨i, j, conflicting, short⟩ := broken
  rw [completeIntergreens_eq, staged,
    if_neg fun sound => (intergreensSound_iff.mp sound i j conflicting).not_gt short]

/-! ## The request -/

/-- WRITE_INTERGREENS may come from the monitor port, so once the image is loaded the Conflict Table takes and answers it
(R44, R171). -/
theorem exec_writeIntergreens {s : State} (h : s.loading = false) (k : Nat) (rows : Vector IgRow 4) :
    exec (.writeIntergreens k rows) s =
      .next ((reqWriteIntergreens k rows s).1.respond .monitor 13 (reqWriteIntergreens k rows s).2) :=
  congrArg Host.Outcome.next (serve_permitted h rfl)

/-- A part is in order when its number is 1 to 4 and every part before it, and no more, has been received; part 1 always
is (R44). -/
def ConflictTable.inOrder (t : ConflictTable) (k : Nat) : Prop :=
  1 ≤ k ∧ k ≤ 4 ∧ (2 ≤ k → t.stagedParts = k - 1)

theorem ConflictTable.not_inOrder_iff {t : ConflictTable} {k : Nat} :
    ¬ t.inOrder k ↔ k = 0 ∨ 4 < k ∨ 2 ≤ k ∧ t.stagedParts ≠ k - 1 := by
  unfold ConflictTable.inOrder
  omega

theorem reqWriteIntergreens_of_running {s : State} {k : Nat} {rows : Vector IgRow 4}
    (running : isStopped s.engine.mode = false) : reqWriteIntergreens k rows s = refuse .wrongMode s := by
  simp [reqWriteIntergreens, running]

theorem reqWriteIntergreens_of_saving {s : State} {k : Nat} {rows : Vector IgRow 4}
    (stopped : isStopped s.engine.mode = true) (saving : s.saving = true) :
    reqWriteIntergreens k rows s = refuse .busy s := by
  simp [reqWriteIntergreens, stopped, saving]

section
variable {s : State} {k : Nat} {rows : Vector IgRow 4} (stopped : isStopped s.engine.mode = true)
  (idle : s.saving = false)
include stopped idle

theorem reqWriteIntergreens_of_not_inOrder (h : ¬ s.conflicts.inOrder k) :
    reqWriteIntergreens k rows s = refuse .range s := by
  have tests : within 1 4 k = false ∨ k ≠ 1 ∧ s.conflicts.stagedParts ≠ k - 1 := by
    simp only [within, Bool.and_eq_false_iff, decide_eq_false_iff_not]
    obtain zero | high | ⟨later, parts⟩ := ConflictTable.not_inOrder_iff.mp h <;> omega
  obtain outside | parts := tests
  · simp [reqWriteIntergreens, stopped, idle, outside]
  · simp [reqWriteIntergreens, stopped, idle, parts]

theorem reqWriteIntergreens_of_inOrder (h : s.conflicts.inOrder k) :
    reqWriteIntergreens k rows s =
      if k = 4 then s.completeIntergreens rows.toList
      else okay (s.onConflicts (ConflictTable.stage k rows.toList)) := by
  obtain ⟨low, high, parts⟩ := h
  have inside : within 1 4 k = true := by simp [within, low, high]
  have received : ¬ (k ≠ 1 ∧ s.conflicts.stagedParts ≠ k - 1) := by omega
  rw [reqWriteIntergreens, if_neg (by simp [stopped]), if_neg (by simp [idle]), if_neg (by simp [inside]),
    if_neg received]

end

/-- Settles O34: each refusal in R44's order, then the parts that are staged, then the check at part 4. -/
theorem intergreenParts : Obligations.IntergreenParts := by
  intro s k rows loaded
  rw [exec_writeIntergreens loaded]
  refine ⟨fun running => ?_, fun stopped saving => ?_, fun stopped idle => ⟨fun outOfOrder => ?_, ?_, ?_, ?_⟩⟩
  · rw [reqWriteIntergreens_of_running running, respond_refuse]
  · rw [reqWriteIntergreens_of_saving stopped saving, respond_refuse]
  · rw [reqWriteIntergreens_of_not_inOrder stopped idle (ConflictTable.not_inOrder_iff.mpr outOfOrder), respond_refuse]
  · rintro rfl
    have ordered : s.conflicts.inOrder 1 := ⟨by omega, by omega, by omega⟩
    rw [reqWriteIntergreens_of_inOrder stopped idle ordered, if_neg (by omega), respond_okay,
      funext (ConflictTable.stage_one _)]
  · intro middle parts
    have ordered : s.conflicts.inOrder k := ⟨by omega, by omega, fun _ => parts⟩
    have later : k ≠ 1 := by omega
    rw [reqWriteIntergreens_of_inOrder stopped idle ordered, if_neg (by omega), respond_okay,
      funext (ConflictTable.stage_of_ne_one later _)]
  · rintro rfl parts table tableRows
    have ordered : s.conflicts.inOrder 4 := ⟨by omega, by omega, fun _ => parts⟩
    have staged := stagedTable_eq_of_rows tableRows
    rw [reqWriteIntergreens_of_inOrder stopped idle ordered, if_pos rfl]
    constructor
    · intro sound
      rw [completeIntergreens_of_sound staged sound, respond_okay]
    · intro broken
      rw [completeIntergreens_of_unsound staged broken, respond_refuse]

end Sys2Proof.Machine
end

section
/-! SELECT_PLAN, DEMAND and EXTEND (R66, R77, R78): the numbers a request may name, and what each request does inside its
range and outside it. -/

namespace Sys2Proof.Machine

/-! ## Numbers and ranges -/

@[simp] theorem numbered_val_add_one {n : Nat} (i : Fin n) : numbered n (i.val + 1) = some i := by
  have inside : 1 ≤ i.val + 1 ∧ i.val + 1 ≤ n := ⟨by omega, by omega⟩
  simp [numbered, inside]

theorem numbered_of_outside {n k : Nat} (outside : k = 0 ∨ n < k) : numbered n k = none :=
  dif_neg (by omega)

theorem within_iff {lo hi n : Nat} : within lo hi n = true ↔ lo ≤ n ∧ n ≤ hi := by
  simp [within]

theorem within_one_eq_false_of_outside {hi n : Nat} (outside : n = 0 ∨ hi < n) : within 1 hi n = false := by
  rw [← Bool.not_eq_true, within_iff]
  omega

/-! ## SELECT_PLAN -/

/-- SELECT_PLAN may come from the plan port, so once the image is loaded the sequencer takes and answers it (R66, R171). -/
theorem exec_selectPlan {s : State} (h : s.loading = false) (n : Nat) :
    exec (.selectPlan n) s = .next ((reqSelectPlan n s).1.respond .plan 19 (reqSelectPlan n s).2) :=
  congrArg Host.Outcome.next (serve_permitted h rfl)

/-- A plan selected waits for the cycle's end while the sequence runs, and comes into force at once otherwise (R66). -/
theorem selectPlan_eq (p : PlanId) (s : State) :
    s.selectPlan p =
      if isRunning s.engine.mode then
        s.onSeq fun q => { q with pendingPlan := if p = q.inForce then none else some p }
      else State.present (s.onSeq fun q => { q with inForce := p }) := by
  unfold State.selectPlan
  cases s.engine.mode <;> rfl

theorem reqSelectPlan_of_outside {n : Nat} (s : State) (outside : n = 0 ∨ 8 < n) :
    reqSelectPlan n s = refuse .range s := by
  rw [reqSelectPlan, planNumber, numbered_of_outside outside]

theorem reqSelectPlan_val_add_one (p : PlanId) (s : State) :
    reqSelectPlan (p.val + 1) s =
      if s.seq.plans[p].validity = .valid then okay (s.selectPlan p) else refuse .invalidPlan s := by
  rw [reqSelectPlan, planNumber, numbered_val_add_one]

/-! ## DEMAND -/

/-- DEMAND may come from the plan port, so once the image is loaded the sequencer takes and answers it (R77, R171). -/
theorem exec_demand {s : State} (h : s.loading = false) (n : Nat) :
    exec (.demand n) s = .next ((reqDemand n s).1.respond .plan 20 (reqDemand n s).2) :=
  congrArg Host.Outcome.next (serve_permitted h rfl)

@[simp] theorem setLatch_val_add_one (demands : StageSet) (k : Fin 12) (on : Bool) :
    setLatch demands (k.val + 1) on = put demands k on := by
  rw [setLatch, numbered_val_add_one]

theorem reqDemand_of_outside {s : State} {n : Nat} (outside : n = 0 ∨ s.seq.plan.count < n) :
    reqDemand n s = refuse .range s := by
  simp [reqDemand, within_one_eq_false_of_outside outside]

theorem reqDemand_val_add_one {s : State} {k : Fin 12} (listed : k.val + 1 ≤ s.seq.plan.count) :
    reqDemand (k.val + 1) s =
      okay (State.present (s.onSeq fun q => { q with demands := put q.demands k true })) := by
  have inside : within 1 s.seq.plan.count (k.val + 1) = true := within_iff.mpr ⟨by omega, listed⟩
  simp [reqDemand, inside]

/-! ## EXTEND -/

/-- EXTEND may come from the plan port, so once the image is loaded the sequencer takes and answers it (R78, R171). -/
theorem exec_extend {s : State} (h : s.loading = false) (x : Nat) :
    exec (.extend x) s = .next ((reqExtend x s).1.respond .plan 21 (reqExtend x s).2) :=
  congrArg Host.Outcome.next (serve_permitted h rfl)

theorem reqExtend_of_not_run {s : State} (x : Nat) (notRun : s.engine.mode ≠ .run) :
    reqExtend x s = refuse .wrongMode s :=
  if_pos notRun

theorem reqExtend_of_outside {s : State} {x : Nat} (run : s.engine.mode = .run) (outside : x = 0 ∨ 100 < x) :
    reqExtend x s = refuse .range s := by
  simp [reqExtend, run, within_one_eq_false_of_outside outside]

theorem reqExtend_of_inside {s : State} {x : Nat} (run : s.engine.mode = .run) (low : 1 ≤ x) (high : x ≤ 100) :
    reqExtend x s = okay (s.onSeq fun q => { q with extensionEnd := q.extended x }) := by
  have inside : within 1 100 x = true := within_iff.mpr ⟨low, high⟩
  simp [reqExtend, run, inside]

/-- Settles O38: the plan selected by its validity and the mode, the demand by the plan in force, and the extension by the
mode and its range. -/
theorem planRequestsTaken : Obligations.PlanRequestsTaken := by
  intro s p k x loaded
  rw [exec_selectPlan loaded, exec_selectPlan loaded, exec_demand loaded, exec_demand loaded, exec_extend loaded,
    reqSelectPlan_val_add_one]
  refine ⟨fun invalid => ?_, fun valid running => ?_, fun valid stopped => ?_, fun outside => ?_, fun listed => ?_,
    fun outside => ?_, fun run low high => ?_, fun run outside => ?_, fun notRun => ?_⟩
  · rw [if_neg (by rw [invalid]; nofun), respond_refuse]
  · rw [if_pos valid, selectPlan_eq, if_pos running, respond_okay]
    rfl
  · rw [if_pos valid, selectPlan_eq, if_neg (by simp [stopped]), respond_okay]
  · rw [reqSelectPlan_of_outside s outside, respond_refuse]
  · rw [reqDemand_val_add_one listed, respond_okay]
  · rw [reqDemand_of_outside outside, respond_refuse]
  · rw [reqExtend_of_inside run low high, respond_okay]
    rfl
  · rw [reqExtend_of_outside run outside, respond_refuse]
  · rw [reqExtend_of_not_run x notRun, respond_refuse]

end Sys2Proof.Machine
end

section
/-! WRITE_QUALIFIER, ARM and DISARM (R146, R152 to R154): the configurations that the arguments of a frame can name, the
refusals in their order, and what each request leaves of the qualifier's record. -/

namespace Sys2Proof.Machine

/-! ## Numbers of values -/

theorem valueOf_codeOf {α : Type} [DecidableEq α] {values : List α} {x : α} (listed : x ∈ values) :
    valueOf values (codeOf values x) = some x :=
  List.getElem?_idxOf listed

/-- A number at or past the end of a list of values names none of them. -/
theorem lt_length_of_valueOf {α : Type} {values : List α} {n : Nat} {x : α} (named : valueOf values n = some x) :
    n < values.length :=
  (List.getElem?_eq_some_iff.mp named).1

theorem mem_qualifierSources (x : QualifierSource) : x ∈ qualifierSources := by cases x <;> decide

theorem mem_conditions (x : Condition) : x ∈ conditions := by cases x <;> decide

theorem mem_combineRules (x : CombineRule) : x ∈ combineRules := by cases x <;> decide

theorem mem_qualifierActions (x : QualifierAction) : x ∈ qualifierActions := by cases x <;> decide

theorem range_of_numbered {n k : Nat} {i : Fin n} (named : numbered n k = some i) : 1 ≤ k ∧ k ≤ n := by
  by_contra outside
  simp [numbered, outside] at named

/-! ## The configuration that the arguments name -/

/-- Every limit is taken; only the condition must be one of its values (R146, R154). -/
theorem comparatorArg_eq_some_iff {args : ComparatorArgs} {k : Comparator} :
    comparatorArg args = some k ↔ valueOf conditions args.condition = some k.condition ∧ args.limit = k.limit := by
  obtain ⟨limit, condition⟩ := k
  cases h : valueOf conditions args.condition <;> simp [comparatorArg, h, and_comm]

/-- The arguments name a configuration exactly when each of the seven fields names its part of it (R154). -/
theorem qualifierConfig_eq_some_iff {args : QualifierArgs} {k : QualifierConfig} :
    qualifierConfig args = some k ↔
      valueOf qualifierSources args.source = some k.source ∧ coreNumber args.subject = some k.subject ∧
      comparatorArg args.a = some k.a ∧ comparatorArg args.b = some k.b ∧
      valueOf combineRules args.combine = some k.combine ∧ valueOf qualifierActions args.action = some k.action ∧
      (1 ≤ args.count ∧ args.count ≤ 255) ∧ args.count = k.count := by
  constructor
  · intro taken
    simp only [qualifierConfig, Option.bind_eq_bind, Option.bind_eq_some_iff] at taken
    obtain ⟨source, hsource, subject, hsubject, a, ha, b, hb, combine, hcombine, action, haction, counted⟩ := taken
    split at counted
    case isTrue inside =>
      cases counted
      exact ⟨hsource, hsubject, ha, hb, hcombine, haction, within_iff.mp inside, rfl⟩
    case isFalse => cases counted
  · rintro ⟨hsource, hsubject, ha, hb, hcombine, haction, inside, hcount⟩
    have counted : within 1 255 k.count = true := within_iff.mpr (hcount ▸ inside)
    simp [qualifierConfig, hsource, hsubject, ha, hb, hcombine, haction, hcount, counted]

/-- The ranges that R154's second test asks of the seven fields. -/
theorem ranges_of_qualifierConfig {args : QualifierArgs} {k : QualifierConfig} (taken : qualifierConfig args = some k) :
    args.source < 4 ∧ (1 ≤ args.subject ∧ args.subject ≤ 64) ∧ args.a.condition < 4 ∧ args.b.condition < 4 ∧
    args.combine < 4 ∧ args.action < 3 ∧ 1 ≤ args.count ∧ args.count ≤ 255 := by
  obtain ⟨source, subject, a, b, combine, action, count, -⟩ := qualifierConfig_eq_some_iff.mp taken
  exact ⟨lt_length_of_valueOf source, range_of_numbered subject,
    lt_length_of_valueOf (comparatorArg_eq_some_iff.mp a).1, lt_length_of_valueOf (comparatorArg_eq_some_iff.mp b).1,
    lt_length_of_valueOf combine, lt_length_of_valueOf action, count⟩

/-- The arguments as a frame carries a configuration (R172). -/
def QualifierConfig.args (k : QualifierConfig) : QualifierArgs where
  source := codeOf qualifierSources k.source
  subject := k.subject.val + 1
  a := { limit := k.a.limit, condition := codeOf conditions k.a.condition }
  b := { limit := k.b.limit, condition := codeOf conditions k.b.condition }
  combine := codeOf combineRules k.combine
  count := k.count
  action := codeOf qualifierActions k.action

theorem comparatorArg_codeOf (k : Comparator) :
    comparatorArg { limit := k.limit, condition := codeOf conditions k.condition } = some k :=
  comparatorArg_eq_some_iff.mpr ⟨valueOf_codeOf (mem_conditions _), rfl⟩

/-- A configuration whose count is in range is read back from its arguments. -/
theorem qualifierConfig_of_spelled {args : QualifierArgs} {k : QualifierConfig} (spelled : args = k.args)
    (low : 1 ≤ k.count) (high : k.count ≤ 255) : qualifierConfig args = some k := by
  subst spelled
  exact qualifierConfig_eq_some_iff.mpr
    ⟨valueOf_codeOf (mem_qualifierSources _), numbered_val_add_one _, comparatorArg_codeOf _, comparatorArg_codeOf _,
      valueOf_codeOf (mem_combineRules _), valueOf_codeOf (mem_qualifierActions _), ⟨low, high⟩, rfl⟩

/-! ## WRITE_QUALIFIER -/

/-- WRITE_QUALIFIER may come from the maintenance port, so once the image is loaded the Qualifier Unit takes and answers
it (R154, R171). -/
theorem exec_writeQualifier {s : State} (h : s.loading = false) (n : Nat) (args : QualifierArgs) :
    exec (.writeQualifier n args) s =
      .next ((reqWriteQualifier n args s).1.respond .maintenance 44 (reqWriteQualifier n args s).2) :=
  congrArg Host.Outcome.next (serve_permitted h rfl)

theorem reqWriteQualifier_of_saving {s : State} (n : Nat) (args : QualifierArgs) (saving : s.saving = true) :
    reqWriteQualifier n args s = refuse .busy s :=
  if_pos saving

theorem reqWriteQualifier_of_unnamed {s : State} {n : Nat} {args : QualifierArgs} (idle : s.saving = false)
    (unnamed : ∀ q k, qualifierNumber n = some q → qualifierConfig args ≠ some k) :
    reqWriteQualifier n args s = refuse .range s := by
  rw [reqWriteQualifier, if_neg (by simp [idle])]
  split
  next q k number config => exact absurd config (unnamed q k number)
  next => rfl

/-- With the number and the arguments in range, the state of the qualifier decides (R154). -/
theorem reqWriteQualifier_of_named {s : State} (q : QualId) {args : QualifierArgs} {k : QualifierConfig}
    (idle : s.saving = false) (config : qualifierConfig args = some k) :
    reqWriteQualifier (q.val + 1) args s =
      if s.quals[q].state = .armed then refuse .armed s
      else okay (s.onQuals fun v => change v q (Qualifier.rewrite k)) := by
  rw [reqWriteQualifier, if_neg (by simp [idle]), qualifierNumber, numbered_val_add_one, config]

/-! ## ARM and DISARM -/

/-- ARM may come from the maintenance port, so once the image is loaded the Qualifier Unit takes and answers it (R152,
R171). -/
theorem exec_arm {s : State} (h : s.loading = false) (n : Nat) :
    exec (.arm n) s = .next ((reqArm n s).1.respond .maintenance 45 (reqArm n s).2) :=
  congrArg Host.Outcome.next (serve_permitted h rfl)

theorem reqArm_val_add_one (q : QualId) (s : State) :
    reqArm (q.val + 1) s =
      okay ((s.onQuals fun v => change v q Qualifier.arm).clear .qualifierFired (.qualifier q)) := by
  rw [reqArm, qualifierNumber, numbered_val_add_one]

theorem reqArm_of_outside {n : Nat} (s : State) (outside : n = 0 ∨ 4 < n) : reqArm n s = refuse .range s := by
  rw [reqArm, qualifierNumber, numbered_of_outside outside]

/-- DISARM may come from the maintenance port, so once the image is loaded the Qualifier Unit takes and answers it (R153,
R171). -/
theorem exec_disarm {s : State} (h : s.loading = false) (n : Nat) :
    exec (.disarm n) s = .next ((reqDisarm n s).1.respond .maintenance 46 (reqDisarm n s).2) :=
  congrArg Host.Outcome.next (serve_permitted h rfl)

theorem reqDisarm_val_add_one (q : QualId) (s : State) :
    reqDisarm (q.val + 1) s = okay (s.onQuals fun v => change v q fun k => { k with state := .idle }) := by
  rw [reqDisarm, qualifierNumber, numbered_val_add_one]

theorem reqDisarm_of_outside {n : Nat} (s : State) (outside : n = 0 ∨ 4 < n) : reqDisarm n s = refuse .range s := by
  rw [reqDisarm, qualifierNumber, numbered_of_outside outside]

/-- Settles O52: WRITE_QUALIFIER's tests in R154's order and the configuration it writes, then ARM and DISARM by the
qualifier's number. -/
theorem qualifiersCommanded : Obligations.QualifiersCommanded := by
  intro s q n source c la lb ca cb rule count action args loaded spelled
  have config (low : 1 ≤ count) (high : count ≤ 255) :
      qualifierConfig args = some ⟨source, c, ⟨la, ca⟩, ⟨lb, cb⟩, rule, count, action⟩ :=
    qualifierConfig_of_spelled spelled low high
  simp only [exec_writeQualifier loaded, exec_arm loaded, exec_disarm loaded]
  refine ⟨fun any => ⟨fun saving => ?_, fun idle outside => ?_⟩,
    fun idle => ⟨fun low high armed => ?_, fun low high unarmed => ?_⟩, ?_, ?_, fun outside => ⟨?_, ?_⟩⟩
  · rw [reqWriteQualifier_of_saving n any saving, respond_refuse]
  · have unnamed : ∀ q k, qualifierNumber n = some q → qualifierConfig any ≠ some k := by
      intro q k number taken
      have numberRange := range_of_numbered number
      have fieldRanges := ranges_of_qualifierConfig taken
      omega
    rw [reqWriteQualifier_of_unnamed idle unnamed, respond_refuse]
  · rw [reqWriteQualifier_of_named q idle (config low high), if_pos armed, respond_refuse]
  · rw [reqWriteQualifier_of_named q idle (config low high), if_neg unarmed, respond_okay]
    rfl
  · rw [reqArm_val_add_one, respond_okay]
    rfl
  · rw [reqDisarm_val_add_one, respond_okay]
    rfl
  · rw [reqArm_of_outside s outside, respond_refuse]
  · rw [reqDisarm_of_outside s outside, respond_refuse]

end Sys2Proof.Machine
end

section
/-! The fault table (R156 to R161): the one record of a key, what a raise, a clear and an acknowledgement make of it, and the
arguments with which ACK_FAULT names it. -/

namespace Sys2Proof.Machine

/-! ## The records of a key -/

theorem FaultRecord.hasKey_iff {k : FaultKind} {x : Subject} {r : FaultRecord} :
    FaultRecord.hasKey k x r = true ↔ r.kind = k ∧ r.subject = x := by
  simp [FaultRecord.hasKey]

/-- No record of the list has this key. -/
def KeyFree (k : FaultKind) (x : Subject) (records : List FaultRecord) : Prop :=
  ∀ r ∈ records, FaultRecord.hasKey k x r = false

theorem keyFree_iff {k : FaultKind} {x : Subject} {records : List FaultRecord} :
    KeyFree k x records ↔ ∀ r ∈ records, (r.kind, r.subject) ≠ (k, x) := by
  simp [KeyFree, FaultRecord.hasKey]

theorem any_hasKey_of_keyFree {k : FaultKind} {x : Subject} {records : List FaultRecord} (free : KeyFree k x records) :
    records.any (FaultRecord.hasKey k x) = false := by
  simpa [KeyFree] using free

/-- The place of the one record with this key in a table (R156). -/
structure FaultTable.KeyAt (t : FaultTable) (k : FaultKind) (x : Subject) (older newer : List FaultRecord)
    (r : FaultRecord) : Prop where
  split : t.records = older ++ r :: newer
  key : FaultRecord.hasKey k x r = true
  older_free : KeyFree k x older
  newer_free : KeyFree k x newer

section
variable {t : FaultTable} {k : FaultKind} {x : Subject} {older newer records : List FaultRecord} {r : FaultRecord}

/-- A table holds no key twice, so around the record of a key there is no other of it (R156). -/
theorem FaultTable.keyAt_of_split (wf : t.wf) (split : t.records = older ++ r :: newer) (kind : r.kind = k)
    (subject : r.subject = x) : t.KeyAt k x older newer r := by
  obtain ⟨-, keys, -⟩ := wf
  rw [split, List.map_append, List.map_cons, List.nodup_middle, List.nodup_cons, List.mem_append, not_or] at keys
  obtain ⟨⟨notOlder, notNewer⟩, -⟩ := keys
  have rKey : r.key = (k, x) := Prod.ext kind subject
  rw [rKey] at notOlder notNewer
  exact ⟨split, FaultRecord.hasKey_iff.mpr ⟨kind, subject⟩,
    keyFree_iff.mpr fun o ho same => notOlder (List.mem_map.mpr ⟨o, ho, same⟩),
    keyFree_iff.mpr fun o ho same => notNewer (List.mem_map.mpr ⟨o, ho, same⟩)⟩

/-! What is done to the records of a key leaves records without it alone, and is done in the place of its one record. -/

theorem filterMap_of_keyFree (f : FaultRecord → Option FaultRecord) (free : KeyFree k x records) :
    (records.filterMap fun r => if FaultRecord.hasKey k x r then f r else some r) = records := by
  rw [List.filterMap_congr (g := some) fun o ho => by simp [free o ho], List.filterMap_some]

theorem map_of_keyFree (f : FaultRecord → FaultRecord) (free : KeyFree k x records) :
    (records.map fun r => if FaultRecord.hasKey k x r then f r else r) = records := by
  rw [List.map_congr_left (g := id) fun o ho => by simp [free o ho], List.map_id]

theorem filter_of_keyFree (free : KeyFree k x records) : records.filter (FaultRecord.hasKey k x) = [] :=
  List.filter_eq_nil_iff.mpr fun o ho => by simp [free o ho]

theorem FaultTable.KeyAt.filterMap_eq (place : t.KeyAt k x older newer r) (f : FaultRecord → Option FaultRecord) :
    (t.records.filterMap fun r => if FaultRecord.hasKey k x r then f r else some r) =
      older ++ (f r).toList ++ newer := by
  rw [place.split, List.filterMap_append, filterMap_of_keyFree f place.older_free, List.filterMap_cons,
    if_pos place.key, filterMap_of_keyFree f place.newer_free]
  cases f r <;> simp

theorem FaultTable.KeyAt.map_eq (place : t.KeyAt k x older newer r) (f : FaultRecord → FaultRecord) :
    (t.records.map fun r => if FaultRecord.hasKey k x r then f r else r) = older ++ f r :: newer := by
  rw [place.split, List.map_append, map_of_keyFree f place.older_free, List.map_cons, if_pos place.key,
    map_of_keyFree f place.newer_free]

theorem FaultTable.KeyAt.filter_eq (place : t.KeyAt k x older newer r) :
    t.records.filter (FaultRecord.hasKey k x) = [r] := by
  rw [place.split, List.filter_append, filter_of_keyFree place.older_free, List.filter_cons_of_pos place.key,
    filter_of_keyFree place.newer_free, List.nil_append]

end

/-! ## One record -/

theorem FaultRecord.raised_eq (now : Clock) (r : FaultRecord) :
    r.raised now =
      if r.state = .active then { r with lastSeen := now }
      else { r with state := .active, acknowledged := false, lastSeen := now,
                    occurrences := min 255 (r.occurrences + 1) } := by
  unfold FaultRecord.raised
  cases r.state <;> rfl

theorem FaultRecord.cleared_toList (r : FaultRecord) :
    r.cleared.toList =
      if r.state = .active then (if r.acknowledged then [] else [{ r with state := .inactive }]) else [r] := by
  unfold FaultRecord.cleared
  cases r.state <;> cases r.acknowledged <;> rfl

theorem FaultRecord.acked_toList (r : FaultRecord) :
    r.acked.toList = if r.state = .active then [{ r with acknowledged := true }] else [] := by
  unfold FaultRecord.acked
  cases r.state <;> rfl

/-- An acknowledgement of every record keeps the ACTIVE ones (R161). -/
theorem filterMap_acked (records : List FaultRecord) :
    records.filterMap FaultRecord.acked =
      (records.filter fun r => r.state == .active).map fun r => { r with acknowledged := true } := by
  induction records with
  | nil => rfl
  | cons r rest ih =>
    cases state : r.state <;> simp [FaultRecord.acked, state, ih]

theorem FaultRecord.evictable_iff {r : FaultRecord} :
    r.evictable = true ↔ r.state = .inactive ∧ r.kind ≠ .conflictObserved := by
  simp [FaultRecord.evictable]

theorem FaultRecord.evictable_eq_false_iff {r : FaultRecord} :
    r.evictable = false ↔ r.state = .active ∨ r.kind = .conflictObserved := by
  cases state : r.state <;> simp [FaultRecord.evictable, state]

/-! ## Raises, clears and acknowledgements of the table -/

/-- The line of a table in its form is the one its records and overflow call for, so making it of them again changes
nothing (R162). -/
theorem FaultTable.make_self {t : FaultTable} (wf : t.wf) : FaultTable.make t.records t.overflow = t := by
  obtain ⟨-, -, -, line⟩ := wf
  rw [FaultTable.make, ← line]

section
variable {t : FaultTable} {k : FaultKind} {x : Subject} {older newer : List FaultRecord} {r : FaultRecord}
  (now : Clock)

theorem FaultTable.raise_at_key (place : t.KeyAt k x older newer r) :
    t.raise k x now = FaultTable.make (older ++ r.raised now :: newer) t.overflow := by
  have held : t.records.any (FaultRecord.hasKey k x) = true := by simp [place.split, place.key]
  rw [FaultTable.raise, if_pos held, place.map_eq]

theorem FaultTable.raise_new (free : KeyFree k x t.records) (room : t.records.length < 32) :
    t.raise k x now = FaultTable.make (t.records ++ [FaultRecord.new k x now]) t.overflow := by
  rw [FaultTable.raise, any_hasKey_of_keyFree free, if_neg Bool.false_ne_true, if_pos room]

/-- In a full table the oldest record that may be removed makes way for the new one (R159). -/
theorem FaultTable.raise_evicting (free : KeyFree k x t.records) (full : t.records.length = 32)
    (split : t.records = older ++ r :: newer) (kept : ∀ o ∈ older, o.evictable = false)
    (removed : r.evictable = true) :
    t.raise k x now = FaultTable.make (older ++ newer ++ [FaultRecord.new k x now]) t.overflow := by
  have some_evictable : t.records.any FaultRecord.evictable = true := by simp [split, removed]
  have without : t.records.eraseP FaultRecord.evictable = older ++ newer := by
    rw [split, List.eraseP_append_right _ (by simpa using kept), List.eraseP_cons_of_pos removed]
  rw [FaultTable.raise, any_hasKey_of_keyFree free, if_neg Bool.false_ne_true, if_neg (by omega),
    if_pos some_evictable, without]

theorem FaultTable.raise_overflowing (free : KeyFree k x t.records) (full : t.records.length = 32)
    (kept : ∀ o ∈ t.records, o.evictable = false) :
    t.raise k x now = FaultTable.make t.records (min 255 (t.overflow + 1)) := by
  have none_evictable : t.records.any FaultRecord.evictable = false := by simpa using kept
  rw [FaultTable.raise, any_hasKey_of_keyFree free, if_neg Bool.false_ne_true, if_neg (by omega), none_evictable,
    if_neg Bool.false_ne_true, saturate]

theorem FaultTable.clear_at_key (place : t.KeyAt k x older newer r) :
    t.clear k x = FaultTable.make (older ++ r.cleared.toList ++ newer) t.overflow := by
  rw [FaultTable.clear, place.filterMap_eq]

theorem FaultTable.clear_of_keyFree (wf : t.wf) (free : KeyFree k x t.records) : t.clear k x = t := by
  rw [FaultTable.clear, filterMap_of_keyFree _ free, FaultTable.make_self wf]

theorem FaultTable.acknowledge_at_key (place : t.KeyAt k x older newer r) :
    t.acknowledge (FaultRecord.hasKey k x) = FaultTable.make (older ++ r.acked.toList ++ newer) t.overflow := by
  rw [FaultTable.acknowledge, place.filterMap_eq]

theorem FaultTable.acknowledge_of_keyFree (wf : t.wf) (free : KeyFree k x t.records) :
    t.acknowledge (FaultRecord.hasKey k x) = t := by
  rw [FaultTable.acknowledge, filterMap_of_keyFree _ free, FaultTable.make_self wf]

theorem FaultTable.acknowledge_all (t : FaultTable) :
    t.acknowledge (fun _ => true) =
      FaultTable.make
        ((t.records.filter fun r => r.state == .active).map fun r => { r with acknowledged := true }) t.overflow :=
  congrArg (FaultTable.make · t.overflow) (filterMap_acked t.records)

end

/-! ## Messages to the table -/

/-- FAULT_RAISE is a message, so once the image is loaded the table takes it when its subject suits its kind (R157). -/
theorem exec_faultRaise {s : State} {k : FaultKind} {x : Subject} (h : s.loading = false) (suited : suits k x = true) :
    exec (.faultRaise k x) s = .next { s with faults := s.faults.raise k x s.nowSec } :=
  congrArg Host.Outcome.next ((event_taken h).trans (if_pos suited))

/-- FAULT_CLEAR is a message, so once the image is loaded the table takes it (R158). -/
theorem exec_faultClear {s : State} (h : s.loading = false) (k : FaultKind) (x : Subject) :
    exec (.faultClear k x) s = .next { s with faults := s.faults.clear k x } :=
  congrArg Host.Outcome.next (event_taken h)

/-! ## The key that ACK_FAULT names -/

/-- In a list of values with none twice, a number is the number of the value it names. -/
theorem codeOf_of_valueOf {α : Type} [DecidableEq α] {values : List α} (distinct : values.Nodup) {n : Nat} {x : α}
    (named : valueOf values n = some x) : codeOf values x = n := by
  obtain ⟨inside, rfl⟩ := List.getElem?_eq_some_iff.mp named
  exact distinct.idxOf_getElem n inside

theorem mem_faultKinds (k : FaultKind) : k ∈ faultKinds := by cases k <;> decide

theorem codeOf_faultKinds_lt (k : FaultKind) : codeOf faultKinds k < 15 :=
  List.idxOf_lt_length_of_mem (mem_faultKinds k)

/-- A subject that suits its kind is read back from its byte (R172). -/
theorem subjectFor_subjectByte {k : FaultKind} {x : Subject} (suited : suits k x = true) :
    subjectFor k (subjectByte x) = some x := by
  cases k with
  | lampPartial | lampOut | lampUncertain | lampOverload | unexpectedCurrent =>
    cases x with
    | aspect c => simp [subjectFor, subjectByte, coreNumber]
    | _ => cases suited
  | redLost | conflictObserved | senseFault =>
    cases x with
    | group g => simp [subjectFor, subjectByte, groupNumber]
    | _ => cases suited
  | cableAsymmetric | cableNoWindow =>
    cases x with
    | core c => simp [subjectFor, subjectByte, coreNumber]
    | _ => cases suited
  | qualifierFired =>
    cases x with
    | qualifier q => simp [subjectFor, subjectByte, qualifierNumber]
    | _ => cases suited
  | syncLost | contactor | storeCheck | forced =>
    cases x with
    | none => rfl
    | _ => cases suited

/-- The subject bytes of each kind, by the kind's number (R161, R172). -/
theorem subjectFor_range {k : FaultKind} {m : Nat} {x : Subject} (named : subjectFor k m = some x) :
    codeOf faultKinds k ∈ [0, 1, 3, 4, 5, 8, 9] ∧ 1 ≤ m ∧ m ≤ 64 ∨
    codeOf faultKinds k ∈ [2, 6, 7] ∧ 1 ≤ m ∧ m ≤ 16 ∨
    codeOf faultKinds k = 10 ∧ 1 ≤ m ∧ m ≤ 4 ∨
    codeOf faultKinds k ∈ [11, 12, 13, 14] ∧ m = 0 := by
  cases k with
  | lampPartial | lampOut | lampUncertain | lampOverload | unexpectedCurrent | cableAsymmetric | cableNoWindow =>
    obtain ⟨c, number, -⟩ := Option.map_eq_some_iff.mp named
    exact .inl ⟨by decide, range_of_numbered number⟩
  | redLost | conflictObserved | senseFault =>
    obtain ⟨g, number, -⟩ := Option.map_eq_some_iff.mp named
    exact .inr (.inl ⟨by decide, range_of_numbered number⟩)
  | qualifierFired =>
    obtain ⟨q, number, -⟩ := Option.map_eq_some_iff.mp named
    exact .inr (.inr (.inl ⟨by decide, range_of_numbered number⟩))
  | syncLost | contactor | storeCheck | forced =>
    exact .inr (.inr (.inr ⟨by decide, (Option.ite_none_right_eq_some.mp named).1⟩))

theorem ackTarget_all : ackTarget 255 0 = some fun _ => true := rfl

theorem ackTarget_codeOf {k : FaultKind} {x : Subject} (suited : suits k x = true) :
    ackTarget (codeOf faultKinds k) (subjectByte x) = some (FaultRecord.hasKey k x) := by
  have code := codeOf_faultKinds_lt k
  rw [ackTarget, if_neg (by omega), valueOf_codeOf (mem_faultKinds k)]
  simp [subjectFor_subjectByte suited]

/-- An acknowledgement that is not refused names ALL with no subject, or a kind with a subject that suits it (R161). -/
theorem ackTarget_range {n m : Nat} {which : FaultRecord → Bool} (named : ackTarget n m = some which) :
    n = 255 ∧ m = 0 ∨ n ∈ [0, 1, 3, 4, 5, 8, 9] ∧ 1 ≤ m ∧ m ≤ 64 ∨ n ∈ [2, 6, 7] ∧ 1 ≤ m ∧ m ≤ 16 ∨
    n = 10 ∧ 1 ≤ m ∧ m ≤ 4 ∨ n ∈ [11, 12, 13, 14] ∧ m = 0 := by
  unfold ackTarget at named
  split at named
  case isTrue all => exact .inl ⟨all, (Option.ite_none_right_eq_some.mp named).1⟩
  case isFalse =>
    obtain ⟨k, kind, rest⟩ := Option.bind_eq_some_iff.mp named
    obtain ⟨x, subject, -⟩ := Option.bind_eq_some_iff.mp rest
    have code : codeOf faultKinds k = n := codeOf_of_valueOf (by decide) kind
    exact .inr (code ▸ subjectFor_range subject)

/-! ## ACK_FAULT and CLEAR_OVERFLOW -/

/-- A request taken with fields to give back is answered OK with them (R169). -/
theorem respond_okWith (p : Port) (code : Nat) (payload : List Byte) (s : State) :
    (okWith payload s).1.respond p code (okWith payload s).2 = s.ok p code payload := rfl

/-- ACK_FAULT may come from every port but the plan port, so once the image is loaded the table takes and answers it (R161,
R171). -/
theorem exec_ackFault {s : State} {p : Port} (h : s.loading = false) (right : p ≠ .plan) (n m : Nat) :
    exec (.ackFault p n m) s = .next ((reqAckFault n m s).1.respond p 48 (reqAckFault n m s).2) := by
  have granted : permitted 48 p = true := by
    cases p with
    | plan => exact absurd rfl right
    | monitor | maintenance => rfl
  exact congrArg Host.Outcome.next (serve_permitted h granted)

theorem reqAckFault_of_unnamed {n m : Nat} (s : State) (unnamed : ackTarget n m = none) :
    reqAckFault n m s = refuse .range s := by
  rw [reqAckFault, unnamed]

theorem reqAckFault_of_named {n m : Nat} {which : FaultRecord → Bool} (s : State)
    (named : ackTarget n m = some which) :
    reqAckFault n m s =
      okWith (u8 ((s.faults.records.filter which).filter fun r => r.state == .active).length ++
          u8 ((s.faults.records.filter which).filter fun r => r.state == .inactive).length)
        { s with faults := s.faults.acknowledge which } := by
  rw [reqAckFault, named]
  rfl

/-- The two counts of an acknowledgement of one record: kept when it is ACTIVE, removed when not (R161). -/
theorem ackCounts_singleton (r : FaultRecord) :
    u8 ([r].filter fun r => r.state == .active).length ++ u8 ([r].filter fun r => r.state == .inactive).length =
      if r.state = .active then [1#8, 0#8] else [0#8, 1#8] := by
  cases state : r.state <;> simp [state, u8]

/-- CLEAR_OVERFLOW may come from the maintenance port, so once the image is loaded the table takes and answers it (R160,
R171). -/
theorem exec_clearOverflow {s : State} (h : s.loading = false) :
    exec .clearOverflow s = .next ((reqClearOverflow s).1.respond .maintenance 49 (reqClearOverflow s).2) :=
  congrArg Host.Outcome.next (serve_permitted h rfl)

/-- Settles O54: the raise of a key held and of a new one with and without room, the clear, the acknowledgement by what it
names, and the clearing of the overflow count. -/
theorem faultsKept : Obligations.FaultsKept := by
  intro s k x p loaded wf
  refine ⟨fun suited => ⟨fun older newer r split kind subject => ?_, fun absent => ⟨fun room => ?_, fun full =>
    ⟨fun older newer r split kept inactive other => ?_, fun kept => ?_⟩⟩⟩,
    fun older newer r split kind subject => ?_, fun absent => ?_, fun right => ⟨?_, fun n m outside => ?_,
    fun suited absent => ?_, fun suited older newer r split kind subject => ?_⟩, ?_⟩
  · have place := FaultTable.keyAt_of_split wf split kind subject
    rw [exec_faultRaise loaded suited, FaultTable.raise_at_key _ place, FaultRecord.raised_eq]
  · rw [exec_faultRaise loaded suited, FaultTable.raise_new _ (keyFree_iff.mpr absent) room]
    rfl
  · rw [exec_faultRaise loaded suited, FaultTable.raise_evicting _ (keyFree_iff.mpr absent) full split
      (fun o ho => FaultRecord.evictable_eq_false_iff.mpr (kept o ho))
      (FaultRecord.evictable_iff.mpr ⟨inactive, other⟩)]
    rfl
  · rw [exec_faultRaise loaded suited, FaultTable.raise_overflowing _ (keyFree_iff.mpr absent) full
      fun o ho => FaultRecord.evictable_eq_false_iff.mpr (kept o ho)]
  · have place := FaultTable.keyAt_of_split wf split kind subject
    rw [exec_faultClear loaded, FaultTable.clear_at_key place, FaultRecord.cleared_toList]
  · rw [exec_faultClear loaded, FaultTable.clear_of_keyFree wf (keyFree_iff.mpr absent)]
  · rw [exec_ackFault loaded right, reqAckFault_of_named s ackTarget_all, respond_okWith, List.filter_true,
      FaultTable.acknowledge_all]
  · have unnamed : ackTarget n m = none := by
      rw [Option.eq_none_iff_forall_ne_some]
      intro which named
      have range := ackTarget_range named
      simp only [List.mem_cons, List.not_mem_nil, or_false] at range outside
      omega
    rw [exec_ackFault loaded right, reqAckFault_of_unnamed s unnamed, respond_refuse]
  · have free := keyFree_iff.mpr absent
    rw [exec_ackFault loaded right, reqAckFault_of_named s (ackTarget_codeOf suited), respond_okWith,
      filter_of_keyFree free, FaultTable.acknowledge_of_keyFree wf free]
    rfl
  · have place := FaultTable.keyAt_of_split wf split kind subject
    rw [exec_ackFault loaded right, reqAckFault_of_named s (ackTarget_codeOf suited), respond_okWith,
      FaultTable.acknowledge_at_key place, FaultRecord.acked_toList, place.filter_eq, ackCounts_singleton]
  · rw [exec_clearOverflow loaded, reqClearOverflow, respond_okWith]
    rfl

end Sys2Proof.Machine
end

section
/-! The stage history (R164, R165): the place of an entry in the ring by its sequence number, the entry that READ_HISTORY
finds at a cursor, and the entry that the ring makes of an item. -/

namespace Sys2Proof.Machine

/-! ## Entries -/

/-- HISTORY_ENTRY is a message, so once the image is loaded the ring takes its item (R164). -/
theorem exec_historyEntry {s : State} (h : s.loading = false) (item : HistoryItem) :
    exec (.historyEntry item) s = .next (s.record item) :=
  congrArg Host.Outcome.next (event_taken h)

/-- In a ring of 16 at most, the oldest entry makes way exactly when 16 are held (R164). -/
theorem History.take_eq {h : History} (room : h.ring.length ≤ 16) (now : Clock) (item : HistoryItem) :
    h.take now item =
      { h with
        ring := (if h.ring.length = 16 then h.ring.tail else h.ring) ++ [h.entryOf now item]
        next := h.next + 1
        lastStage := noteAfter h.lastStage item } := by
  have kept : (if h.ring.length < 16 then h.ring else h.ring.drop (h.ring.length - 15)) =
      if h.ring.length = 16 then h.ring.tail else h.ring := by
    obtain full | short := Nat.eq_or_lt_of_le room
    · simp [full]
    · rw [if_pos short, if_neg short.ne]
  rw [History.take, kept]
  rfl

theorem eq_noGroups_iff {set : GroupSet} : set = noGroups ↔ ∀ g : GroupId, set[g] = false := by
  constructor
  · rintro rfl g
    simp [noGroups]
  · intro empty
    ext1 i hi
    simpa [noGroups] using empty ⟨i, hi⟩

/-! ## Reading at a cursor -/

theorem History.readAt_next (h : History) : h.readAt h.next = none := by
  simp [History.readAt]

/-- The distance from an entry held to the next sequence number is its distance from the end of the ring (R164). -/
theorem History.distance_to_next {h : History} (wf : h.wf) (k : Fin h.ring.length) :
    (h.next - h.ring[k].sequence).toNat = h.ring.length - k.val := by
  obtain ⟨room, sequences⟩ := wf
  rw [sequences k, sub_sub_cancel, BitVec.toNat_ofNat]
  omega

theorem History.readAt_held {h : History} (wf : h.wf) {e : HistoryEntry} (held : e ∈ h.ring) :
    h.readAt e.sequence = some (e, 0) := by
  obtain ⟨k, hk, rfl⟩ := List.mem_iff_getElem.mp held
  have distance : (h.next - h.ring[k].sequence).toNat = h.ring.length - k := h.distance_to_next wf ⟨k, hk⟩
  have place : h.ring.length - (h.ring.length - k) = k := by omega
  simp only [History.readAt, distance]
  rw [if_neg (by omega), if_pos (by omega), place, List.getElem?_eq_getElem hk]
  rfl

/-- A cursor behind every entry held reads the oldest, with its distance from the cursor missed (R165). -/
theorem History.readAt_behind {h : History} {e : HistoryEntry} {rest : List HistoryEntry} {cursor : BitVec 16}
    (oldest : h.ring = e :: rest) (behind : h.ring.length < (h.next - cursor).toNat) :
    h.readAt cursor = some (e, (e.sequence - cursor).toNat) := by
  rw [History.readAt, if_neg (by omega), if_neg (by omega), oldest]
  rfl

theorem History.oldest_eq (h : History) :
    h.oldest = match h.ring.head? with
      | some e => e.sequence
      | none => h.next := by
  unfold History.oldest
  cases h.ring <;> rfl

/-! ## READ_HISTORY and SEEK_HISTORY -/

/-- READ_HISTORY may come from every port, so once the image is loaded the history takes and answers it (R165, R171). -/
theorem exec_readHistory {s : State} (h : s.loading = false) (p : Port) :
    exec (.readHistory p) s = .next ((reqReadHistory p s).1.respond p 51 (reqReadHistory p s).2) :=
  congrArg Host.Outcome.next (serve_permitted h (by cases p <;> rfl))

/-- SEEK_HISTORY may come from every port, so once the image is loaded the history takes and answers it (R165, R171). -/
theorem exec_seekHistory {s : State} (h : s.loading = false) (p : Port) :
    exec (.seekHistory p) s = .next ((reqSeekHistory p s).1.respond p 52 (reqSeekHistory p s).2) :=
  congrArg Host.Outcome.next (serve_permitted h (by cases p <;> rfl))

theorem reqReadHistory_of_none {s : State} {p : Port} (newest : s.history.readAt (s.history.cursors.at p) = none) :
    reqReadHistory p s = refuse .empty s := by
  rw [reqReadHistory, newest]

theorem reqReadHistory_of_some {s : State} {p : Port} {e : HistoryEntry} {missed : Nat}
    (found : s.history.readAt (s.history.cursors.at p) = some (e, missed)) :
    reqReadHistory p s =
      okWith (u16 missed ++ historyBytes e) (s.onHistory (History.seek p (e.sequence + 1))) := by
  rw [reqReadHistory, found]
  rfl

/-- Settles O55: the entry taken kind by kind, then the cursor at the newest end, at an entry held and behind the ring, then
the cursor taken to the oldest entry. -/
theorem historyServed : Obligations.HistoryServed := by
  intro s item p loaded wf
  rw [exec_historyEntry loaded, exec_readHistory loaded, exec_seekHistory loaded]
  refine ⟨⟨s.history.entryOf s.nowSec item, ?_, ?_⟩, fun newest => ?_, fun e held here => ?_,
    fun e rest oldest behind => ?_, ?_⟩
  · obtain ⟨room, -⟩ := wf
    rw [State.record, State.onHistory, History.take_eq room]
    cases item with
    | mode plan cycleAt mode => cases mode <;> rfl
    | _ => rfl
  · rintro ⟨sequence, time, _, _, fromStage, toStage, _, duration, withheld, substituted, detail⟩
    rintro rfl rfl rfl rfl rfl empty rfl rfl
    obtain rfl := eq_noGroups_iff.mpr empty
    cases item <;> rfl
  · rw [reqReadHistory_of_none (by rw [newest, History.readAt_next]), respond_refuse]
  · rw [reqReadHistory_of_some (here ▸ History.readAt_held wf held), respond_okWith, here]
    rfl
  · rw [reqReadHistory_of_some (History.readAt_behind oldest behind), respond_okWith]
    rfl
  · rw [reqSeekHistory, respond_okWith, State.onHistory, History.oldest_eq]
    rfl

end Sys2Proof.Machine
end

section
/-! The forms of the fault table and the stage history (R156, R162, R164): every operation of the two keeps them. -/

namespace Sys2Proof.Machine

/-! ## The fault table -/

theorem FaultRecord.raised_key (now : Clock) (r : FaultRecord) : (r.raised now).key = r.key := by
  cases h : r.state <;> simp [FaultRecord.raised, h, FaultRecord.key]

theorem FaultRecord.cleared_key {r c : FaultRecord} (left : r.cleared = some c) : c.key = r.key := by
  unfold FaultRecord.cleared at left
  split at left <;> cases left <;> rfl

theorem FaultRecord.acked_key {r c : FaultRecord} (left : r.acked = some c) : c.key = r.key := by
  unfold FaultRecord.acked at left
  split at left
  · cases left
    rfl
  · cases left

/-- A table made of records in form is in form: its line is set by its making (R162). -/
theorem FaultTable.make_wf {records : List FaultRecord} {overflow : Nat} (room : records.length ≤ 32)
    (distinct : (records.map FaultRecord.key).Nodup) (count : overflow ≤ 255) :
    (FaultTable.make records overflow).wf :=
  ⟨room, distinct, count, rfl⟩

/-- Records thinned out one by one, each keeping its key, are as distinct as before. -/
theorem keys_filterMap_sublist {f : FaultRecord → Option FaultRecord} {records : List FaultRecord}
    (kept : ∀ r c, f r = some c → c.key = r.key) :
    ((records.filterMap f).map FaultRecord.key).Sublist (records.map FaultRecord.key) := by
  induction records with
  | nil => simp
  | cons r rest ih =>
    cases left : f r with
    | none => simpa [left] using ih.cons r.key
    | some c => simpa [left, kept r c left] using ih

theorem FaultTable.filterMap_wf {t : FaultTable} {f : FaultRecord → Option FaultRecord} {overflow : Nat} (wf : t.wf)
    (kept : ∀ r c, f r = some c → c.key = r.key) (count : overflow ≤ 255) :
    (FaultTable.make (t.records.filterMap f) overflow).wf := by
  obtain ⟨room, distinct, -, -⟩ := wf
  exact make_wf ((List.length_filterMap_le _ _).trans room) (distinct.sublist (keys_filterMap_sublist kept)) count

theorem FaultTable.clear_wf {t : FaultTable} (wf : t.wf) (k : FaultKind) (x : Subject) : (t.clear k x).wf := by
  refine filterMap_wf wf (fun r c left => ?_) wf.2.2.1
  split at left
  · exact FaultRecord.cleared_key left
  · rw [Option.some.inj left]

theorem FaultTable.acknowledge_wf {t : FaultTable} (wf : t.wf) (which : FaultRecord → Bool) :
    (t.acknowledge which).wf := by
  refine filterMap_wf wf (fun r c left => ?_) wf.2.2.1
  split at left
  · exact FaultRecord.acked_key left
  · rw [Option.some.inj left]

theorem FaultTable.overflowCleared_wf {t : FaultTable} (wf : t.wf) : (FaultTable.make t.records 0).wf :=
  make_wf wf.1 wf.2.1 (Nat.zero_le _)

/-- A record of a key that no record has may join them. -/
theorem keys_append_new {k : FaultKind} {x : Subject} {records : List FaultRecord} (now : Clock)
    (distinct : (records.map FaultRecord.key).Nodup) (free : KeyFree k x records) :
    ((records ++ [FaultRecord.new k x now]).map FaultRecord.key).Nodup := by
  rw [List.map_append, List.nodup_append]
  refine ⟨distinct, List.nodup_singleton _, ?_⟩
  rintro key hkey _ hnew rfl
  obtain ⟨r, hr, same⟩ := List.mem_map.mp hkey
  exact keyFree_iff.mp free r hr (same.trans (List.mem_singleton.mp hnew))

theorem FaultTable.raise_wf {t : FaultTable} (wf : t.wf) (k : FaultKind) (x : Subject) (now : Clock) :
    (t.raise k x now).wf := by
  obtain ⟨room, distinct, count, -⟩ := wf
  have free_of : t.records.any (FaultRecord.hasKey k x) = false → KeyFree k x t.records := fun none =>
    by simpa [KeyFree] using none
  refine ⟨?_, ?_, ?_, raise_line k x now t⟩ <;>
  obtain ⟨_, overflow, records⟩ | ⟨absent, _, overflow, records⟩ | ⟨absent, full, found, overflow, records⟩ |
    ⟨_, _, _, records, overflow⟩ := raise_cases k x now t
  · rw [records, List.length_map]; exact room
  · rw [records, List.length_append, List.length_singleton]; omega
  · obtain ⟨r, hr, removable⟩ := List.any_eq_true.mp found
    rw [records, List.length_append, List.length_eraseP_of_mem hr removable, List.length_singleton]
    omega
  · rw [records]; exact room
  · have keys : ((t.raise k x now).records.map FaultRecord.key) = t.records.map FaultRecord.key := by
      rw [records, List.map_map]
      refine List.map_congr_left fun r _ => ?_
      simp only [Function.comp_apply]
      split
      · exact FaultRecord.raised_key now r
      · rfl
    rw [keys]; exact distinct
  · rw [records]; exact keys_append_new now distinct (free_of absent)
  · rw [records]
    have rest : (t.records.eraseP FaultRecord.evictable).Sublist t.records := List.eraseP_sublist
    exact keys_append_new now (distinct.sublist (rest.map _)) fun r hr => free_of absent r (rest.subset hr)
  · rw [records]; exact distinct
  · rw [overflow]; exact count
  · rw [overflow]; exact count
  · rw [overflow]; exact count
  · rw [overflow]; exact Nat.min_le_left _ _

theorem FaultTable.empty_wf : FaultTable.empty.wf := by
  refine ⟨?_, ?_, ?_, rfl⟩ <;> simp [FaultTable.empty]

/-! ## The stage history -/

theorem History.entryOf_sequence (h : History) (now : Clock) (item : HistoryItem) :
    (h.entryOf now item).sequence = h.next := by cases item <;> rfl

/-- Whether a list of entries holds the last sequence numbers issued before `next` (R164). -/
def EndsAt (next : BitVec 16) (ring : List HistoryEntry) : Prop :=
  ∀ k (hk : k < ring.length), ring[k].sequence = next - BitVec.ofNat 16 (ring.length - k)

theorem History.wf_iff {h : History} : h.wf ↔ h.ring.length ≤ 16 ∧ EndsAt h.next h.ring :=
  and_congr_right fun _ => ⟨fun at' k hk => at' ⟨k, hk⟩, fun at' k => at' k.val k.isLt⟩

theorem EndsAt.tail {next : BitVec 16} {ring : List HistoryEntry} (ends : EndsAt next ring) :
    EndsAt next ring.tail := by
  intro k hk
  rw [List.length_tail] at hk
  rw [List.getElem_tail, ends (k + 1) (by omega), List.length_tail, Nat.sub_add_eq, Nat.sub_right_comm]

theorem EndsAt.append {next : BitVec 16} {ring : List HistoryEntry} {e : HistoryEntry} (ends : EndsAt next ring)
    (numbered : e.sequence = next) : EndsAt (next + 1#16) (ring ++ [e]) := by
  intro k hk
  rw [List.length_append, List.length_singleton] at hk ⊢
  obtain older | newest := Nat.lt_or_eq_of_le (Nat.le_of_lt_succ hk)
  · have distance : ring.length + 1 - k = ring.length - k + 1 := by omega
    rw [List.getElem_append_left older, ends k older, distance, BitVec.ofNat_add, ← sub_sub, add_sub_right_comm]
    exact (add_sub_cancel_right _ _).symm
  · subst newest
    have distance : ring.length + 1 - ring.length = 1 := by omega
    rw [List.getElem_concat_length, numbered, distance, add_sub_cancel_right]
    rfl

/-- An entry taken has the last sequence number issued, and pushes out the oldest entry of a full ring (R164). -/
theorem History.take_wf {h : History} (wf : h.wf) (now : Clock) (item : HistoryItem) : (h.take now item).wf := by
  obtain ⟨room, ends⟩ := wf_iff.mp wf
  rw [History.take_eq room, wf_iff]
  have numbered := h.entryOf_sequence now item
  by_cases full : h.ring.length = 16
  · rw [if_pos full]
    exact ⟨by simp [full], ends.tail.append numbered⟩
  · rw [if_neg full]
    exact ⟨by simp only [List.length_append, List.length_singleton]; omega, ends.append numbered⟩

theorem History.empty_wf : History.empty.wf := by
  refine ⟨by simp [History.empty], fun k => ?_⟩
  exact absurd k.isLt (by simp [History.empty])

end Sys2Proof.Machine
end

section
/-! What the shared operations of the engine and the sequencer make of a state, each said once as a whole next state: the
outputs brought up to date, the lines, the completion of an interstage and the holds. -/

namespace Sys2Proof.Machine

variable (s : State)

/-! ## Outputs brought up to date -/

@[simp] theorem present_pending : s.present.pending = s.pending := by rw [present_only]
@[simp] theorem present_outbox :
    s.present.outbox = s.outbox ++ outputMessages s.engine.aspects s.wantedOutputs := by rw [present_only]
@[simp] theorem present_uptimeMs : s.present.uptimeMs = s.uptimeMs := by rw [present_only]
@[simp] theorem present_expiries : s.present.expiries = s.expiries := by rw [present_only]
@[simp] theorem present_engine : s.present.engine = { s.engine with aspects := s.wantedOutputs } := by rw [present_only]
@[simp] theorem present_conflicts : s.present.conflicts = s.conflicts := by rw [present_only]
@[simp] theorem present_seq : s.present.seq = s.seq := by rw [present_only]
@[simp] theorem present_lamps : s.present.lamps = s.lamps := by rw [present_only]
@[simp] theorem present_cable : s.present.cable = s.notified.cable := by rw [present_only]
@[simp] theorem present_quals : s.present.quals = s.quals := by rw [present_only]
@[simp] theorem present_faults : s.present.faults = s.faults := by rw [present_only]
@[simp] theorem present_history : s.present.history = s.history := by rw [present_only]
@[simp] theorem present_ports : s.present.ports = s.ports := by rw [present_only]
@[simp] theorem present_store : s.present.store = s.store := by rw [present_only]

@[simp] theorem wantedOutputs_getElem (c : CoreId) :
    s.wantedOutputs[c] = { command := s.wantedCommand c, lit := levelOf s.engine.clock (s.wantedCommand c) } := by
  simp [State.wantedOutputs]

/-! ## Lines -/

/-- The dim line set, and its change told to the Lamp Proving Unit (R19, R104). -/
theorem setDim_eq (on : Bool) :
    s.setDim on =
      { s with
        engine.dimOn := on
        outbox := s.outbox ++ if s.engine.dimOn = on then [] else [.dimChange on] } := by
  unfold State.setDim
  split
  · next same => simp only [← same, List.append_nil]
  · rfl

/-- The feedback check after a change of the contactor's line or feedback (R18). -/
theorem contactorChange_eq (f : Engine → Engine) :
    s.contactorChange f =
      { s with
        engine := { f s.engine with
          contactorTimer :=
            if s.engine.agrees && !(f s.engine).agrees then some s.nowMs
            else if !s.engine.agrees && (f s.engine).agrees then none
            else (f s.engine).contactorTimer }
        faults :=
          if !s.engine.agrees && (f s.engine).agrees then s.faults.clear .contactor .none else s.faults } := by
  unfold State.contactorChange
  cases s.engine.agrees <;> cases h : (f s.engine).agrees <;> simp [h] <;> rfl

/-! ## The sequencer's side of a completion -/

/-- The step budget counted in RUN, its last step asking for a hold (R37). -/
theorem countBudget_eq :
    s.countBudget =
      { s with
        seq.budget := if s.engine.mode = .run then s.seq.budget - 1 else s.seq.budget
        outbox := s.outbox ++
          if s.engine.mode = .run ∧ s.seq.budget = 1 then [.stepCountHold s.seq.budgetPort] else [] } := by
  unfold State.countBudget
  by_cases run : s.engine.mode = .run
  · obtain spent | ⟨n, more⟩ : s.seq.budget = 0 ∨ ∃ n, s.seq.budget = n + 1 := by
      cases s.seq.budget with
      | zero => exact .inl rfl
      | succ n => exact .inr ⟨n, rfl⟩
    · have kept : s.seq.budget - 1 = s.seq.budget := by omega
      rw [if_neg (by omega), if_pos run, if_neg (by omega), List.append_nil, kept]
    · cases n with
      | zero => simp [run, more, State.send, State.onOutbox, State.onSeq]
      | succ n => simp [run, more, State.onSeq]
  · simp [run]

/-- The sequencer once a completion report has been taken, before the step budget is counted: the stage of the latest
request begins and its demand is used up (R71). -/
def Sequencer.stageBegun (q : Sequencer) : Sequencer :=
  { q with demands := setLatch q.demands q.running.index false, stageTimer := 0, state := .timing }

/-- The sequencer after a completion report, as R71, R37 and R88 lay it down. -/
def Sequencer.reported (mode : Mode) (set : GroupSet) (q : Sequencer) : Sequencer :=
  let begun := if set = q.latest.set then q.stageBegun else q
  let counted := { begun with budget := if mode = .run then q.budget - 1 else q.budget }
  if set = q.latest.set ∧ q.running.elastic = true then counted.correctionDue else counted

theorem reportCompletion_eq (set : GroupSet) :
    s.reportCompletion set =
      { s with
        seq := s.seq.reported s.engine.mode set
        outbox := s.outbox ++
          if s.engine.mode = .run ∧ s.seq.budget = 1 then [.stepCountHold s.seq.budgetPort] else [] } := by
  unfold State.reportCompletion Sequencer.reported
  by_cases latest : set = s.seq.latest.set
  · simp only [latest, if_true, countBudget_eq, true_and]
    by_cases elastic : s.seq.running.elastic = true
    · simp only [State.onSeq, elastic, if_true]
      rfl
    · simp only [State.onSeq, elastic]
      rfl
  · simp only [latest, if_false, countBudget_eq, false_and]

/-! ## Holds and completions -/

/-- The notices that tell the three blocks of a mode (R20). -/
def modeNotices (m : Mode) : List Instr :=
  [.junctionModeNotice .sequencer m, .junctionModeNotice .lampUnit m, .junctionModeNotice .cableUnit m]

/-- The hold record of an entry to HELD (R30, R31). -/
def HoldRecord.entering (cause : HoldCause) (port : BudgetPort) (now : Clock) : HoldRecord where
  cause := cause
  entered := now
  pending := false
  pendingCause := .none
  budgetPort := if cause = .stepCount then port else .none

theorem enterHeld_eq (cause : HoldCause) (port : BudgetPort) :
    s.enterHeld cause port =
      { s with
        engine.mode := .held
        engine.hold := HoldRecord.entering cause port s.nowSec
        outbox := s.outbox ++ modeNotices .held
        history := s.history.take s.nowSec (.hold s.seq.inForce s.seq.stageIndex s.seq.cycleTimer cause) } := rfl

/-- Whether a completion enters HELD: in RUN with a hold pending (R32). -/
abbrev Engine.holdDue (e : Engine) : Prop := e.mode = .run ∧ e.hold.pending = true

/-- The engine after parts 1 to 4 of a completion (R32, R53). -/
def Engine.completed (now : Clock) (e : Engine) : Engine :=
  { e with
    interstage.inFlight := false
    mode := if e.holdDue then .held else e.mode
    hold := if e.holdDue then HoldRecord.entering e.hold.pendingCause e.hold.budgetPort now else e.hold }

/-- The history once a completed interstage with a tag has made its CHANGE entry (R53, R164). -/
def State.changeEntered (s : State) : History :=
  match s.engine.interstage.tag with
  | some tag =>
    s.history.take s.nowSec
      (.change tag (elapsed s.engine.clock s.engine.interstage.begunAt) s.engine.withheldEntering)
  | none => s.history

/-- The correction made due changes the correction record alone (R88). -/
theorem correctionDue_only (q : Sequencer) :
    q.correctionDue = { q with correction := q.correctionDue.correction } := by
  unfold Sequencer.correctionDue
  split
  · dsimp only
    split <;> rfl
  · rfl

/-- A completion report changes the state, the stage timer, the demands, the correction and the budget alone. -/
theorem reported_only (mode : Mode) (set : GroupSet) (q : Sequencer) :
    q.reported mode set =
      { q with
        state := (q.reported mode set).state
        stageTimer := (q.reported mode set).stageTimer
        demands := (q.reported mode set).demands
        correction := (q.reported mode set).correction
        budget := (q.reported mode set).budget } := by
  unfold Sequencer.reported
  dsimp only
  split
  · rw [correctionDue_only]
    split <;> rfl
  · split <;> rfl

/-- The state after parts 1 to 3 of a completion, before a pending hold is taken (R53). -/
def State.reported (s : State) : State :=
  { s with
    engine.interstage.inFlight := false
    seq := s.seq.reported s.engine.mode s.engine.interstage.target
    outbox := s.outbox ++
      if s.engine.mode = .run ∧ s.seq.budget = 1 then [.stepCountHold s.seq.budgetPort] else []
    history := s.changeEntered }

theorem complete_eq_reported :
    s.complete =
      if s.engine.holdDue then s.reported.enterHeld s.engine.hold.pendingCause s.engine.hold.budgetPort
      else s.reported := by
  by_cases due : s.engine.holdDue
  · rw [if_pos due]
    cases tag : s.engine.interstage.tag <;>
    · simp only [State.complete, reportCompletion_eq, tag, State.record_engine, State.onEngine_engine]
      rw [if_pos due]
      simp only [State.reported, State.changeEntered, tag]
      rfl
  · rw [if_neg due]
    cases tag : s.engine.interstage.tag <;>
    · simp only [State.complete, reportCompletion_eq, tag, State.record_engine, State.onEngine_engine]
      rw [if_neg due]
      simp only [State.reported, State.changeEntered, tag]
      rfl

/-- A completion changes the interstage, the mode and the hold of the engine, the sequencer, what is sent and the
history. -/
theorem complete_only :
    s.complete =
      { s with
        engine := s.engine.completed s.nowSec
        seq := s.seq.reported s.engine.mode s.engine.interstage.target
        outbox := s.complete.outbox
        history := s.complete.history } := by
  rw [complete_eq_reported]
  by_cases due : s.engine.holdDue
  · rw [if_pos due, Engine.completed, if_pos due, if_pos due, enterHeld_eq, State.reported]
    rfl
  · rw [if_neg due, Engine.completed, if_neg due, if_neg due, State.reported]

end Sys2Proof.Machine
end

section
/-! What a step keeps, part by part: the queue, the clock, a safe junction, the lines, the service records, the scan, the two
tables and the cable tests. Each operation of the blocks that touches one of them is shown to keep it, once. -/

namespace Sys2Proof.Machine

/-- Tests keep off lit cores and the test queue is in form (R134, R136, R138). -/
abbrev State.testsSound (s : State) : Prop := s.flightSafe ∧ s.queueSound

/-- A move of the part after which the queue of commands stands as before and every form that held still holds. -/
structure KeepsForm (s t : State) : Prop where
  pending : t.pending = s.pending := by rfl
  clock : s.clockSound → t.clockSound := by exact fun h => h
  safe : s.junctionSafe → t.junctionSafe := by exact fun h => h
  lines : s.linesSound → t.linesSound := by exact fun h => h
  service : s.engine.serviceSound → t.engine.serviceSound := by exact fun h => h
  scan : s.lamps.scanSound → t.lamps.scanSound := by exact fun h => h
  faults : s.faults.wf → t.faults.wf := by exact fun h => h
  history : s.history.wf → t.history.wf := by exact fun h => h
  tests : s.testsSound → t.testsSound := by exact fun h => h

namespace KeepsForm

theorem refl (s : State) : KeepsForm s s := {}

theorem trans {s t u : State} (first : KeepsForm s t) (second : KeepsForm t u) : KeepsForm s u where
  pending := second.pending.trans first.pending
  clock := second.clock ∘ first.clock
  safe := second.safe ∘ first.safe
  lines := second.lines ∘ first.lines
  service := second.service ∘ first.service
  scan := second.scan ∘ first.scan
  faults := second.faults ∘ first.faults
  history := second.history ∘ first.history
  tests := second.tests ∘ first.tests

/-! ## Records that no form speaks of -/

section
variable (s : State)

theorem onOutbox (f) : KeepsForm s (s.onOutbox f) := {}
theorem send (messages) : KeepsForm s (s.send messages) := {}
theorem taking (message) : KeepsForm s (s.taking message) := {}
theorem onSeq (f) : KeepsForm s (s.onSeq f) := {}
theorem onQuals (f) : KeepsForm s (s.onQuals f) := {}
theorem onPorts (f) : KeepsForm s (s.onPorts f) := {}
theorem onPort (p f) : KeepsForm s (s.onPort p f) := {}
theorem respond (p code a) : KeepsForm s (s.respond p code a) := {}
theorem onStore (f) : KeepsForm s (s.onStore f) := {}

/-! ## The two tables -/

theorem raise (k x) : KeepsForm s (s.raise k x) := { faults := fun wf => FaultTable.raise_wf wf k x s.nowSec }
theorem clear (k x) : KeepsForm s (s.clear k x) := { faults := fun wf => FaultTable.clear_wf wf k x }
theorem acknowledge (which) : KeepsForm s (s.onFaults (FaultTable.acknowledge which)) :=
  { faults := fun wf => FaultTable.acknowledge_wf wf which }
theorem overflowCleared : KeepsForm s (s.onFaults fun t => FaultTable.make t.records 0) :=
  { faults := FaultTable.overflowCleared_wf }
theorem record (item) : KeepsForm s (s.record item) := { history := fun wf => History.take_wf wf s.nowSec item }
theorem seek (p cursor) : KeepsForm s (s.onHistory (History.seek p cursor)) := {}

theorem act (a : FaultAction) : KeepsForm s (s.act a) := by
  cases a with
  | raise k x => exact raise s k x
  | clear k x => exact clear s k x

end

theorem actAll (s : State) (actions : List FaultAction) : KeepsForm s (s.actAll actions) := by
  induction actions generalizing s with
  | nil => exact refl s
  | cons a rest ih => exact (act s a).trans (ih _)

/-! ## Lines -/

theorem setDim {s : State} {on : Bool} (h : on = true → isRunning s.engine.mode = true) : KeepsForm s (s.setDim on) := by
  rw [setDim_eq]
  exact { lines := fun lines => ⟨lines.1, h⟩ }

end KeepsForm

/-! ## A junction whose groups stand -/

/-- The conflicts follow from the matrix and the types (R40). -/
theorem conflict_of_same {s t : State} (matrix : t.conflicts.matrix = s.conflicts.matrix)
    (types : ∀ g : GroupId, t.engine.groups[g].type = s.engine.groups[g].type) (i j : GroupId) :
    t.conflict i j = s.conflict i j := by
  have typeOf : t.typeOf = s.typeOf := funext types
  rw [State.conflict, State.conflict, matrix, typeOf]

/-- A junction is as safe as before when the modes it goes between are both of those that run the groups' sequences, or the
same, and the groups' types and states and the conflicts stand. -/
theorem junctionSafe_of_same {s t : State} (matrix : t.conflicts.matrix = s.conflicts.matrix)
    (phase : t.engine.startPhase = s.engine.startPhase)
    (types : ∀ g : GroupId, t.engine.groups[g].type = s.engine.groups[g].type)
    (states : ∀ g : GroupId, t.engine.groups[g].state = s.engine.groups[g].state)
    (mode : t.engine.mode = s.engine.mode ∨ isRunning s.engine.mode = true ∧ isRunning t.engine.mode = true)
    (safe : s.junctionSafe) : t.junctionSafe := by
  obtain ⟨sound, ⟨phases, shown⟩, apart⟩ := safe
  have running : isRunning t.engine.mode = isRunning s.engine.mode := by
    obtain same | ⟨before, after⟩ := mode
    · rw [same]
    · rw [before, after]
  refine ⟨matrix ▸ sound, ⟨?_, fun g => ?_⟩, fun run i j meet => ?_⟩
  · show t.engine.startPhase = .none ↔ t.engine.mode ≠ .start
    rw [phase]
    obtain same | ⟨before, after⟩ := mode
    · rw [same]; exact phases
    · have notBefore : s.engine.mode ≠ .start := fun h => by rw [h] at before; cases before
      have notAfter : t.engine.mode ≠ .start := fun h => by rw [h] at after; cases after
      exact iff_of_true (phases.mpr notBefore) notAfter
  · have was := shown g
    rw [types, states, phase]
    obtain same | ⟨before, after⟩ := mode
    · rw [same]; exact was
    · revert before after was
      cases s.engine.mode <;> cases t.engine.mode <;> simp [isRunning, shownState]
  · rw [states, states]
    exact apart (running ▸ run) i j (conflict_of_same matrix types i j ▸ meet)

end Sys2Proof.Machine
end

section
/-! The interstage and the holds (R31, R32, R34, R50 to R56): what of the junction they move, and that every one of them
keeps the form of the service records. -/

namespace Sys2Proof.Machine

/-! ## What the operations of the interstage move -/

/-- What an operation of the interstage or of a hold moves of the engine: the service records, the withheld flags, and the
mode from RUN to HELD. -/
structure Engine.ServiceMoved (e e' : Engine) : Prop where
  kept : e' = { e with interstage := e'.interstage, slot := e'.slot, mode := e'.mode, hold := e'.hold,
                       groups := e'.groups }
  group : ∀ g : GroupId, e'.groups[g] = { e.groups[g] with withheld := e'.groups[g].withheld }
  mode : e'.mode = e.mode ∨ e.mode = .run ∧ e'.mode = .held

namespace Engine.ServiceMoved

theorem refl (e : Engine) : ServiceMoved e e := ⟨rfl, fun _ => rfl, .inl rfl⟩

theorem trans {e e' e'' : Engine} (first : ServiceMoved e e') (second : ServiceMoved e' e'') : ServiceMoved e e'' where
  kept := by rw [second.kept, first.kept]
  group g := by rw [second.group g, first.group g]
  mode := by
    obtain same | ⟨run, held⟩ := second.mode
    · rw [same]; exact first.mode
    · obtain same | ⟨_, held'⟩ := first.mode
      · exact .inr ⟨same ▸ run, held⟩
      · rw [run] at held'; cases held'

theorem beginInterstage (r : StageRequest) (e : Engine) : ServiceMoved e (e.beginInterstage r) :=
  ⟨rfl, fun g => by simp [Engine.beginInterstage], .inl rfl⟩

theorem emptySlot (e : Engine) : ServiceMoved e { e with slot := none } := ⟨rfl, fun _ => rfl, .inl rfl⟩

theorem completed (now : Clock) (e : Engine) : ServiceMoved e (e.completed now) := by
  refine ⟨rfl, fun _ => rfl, ?_⟩
  by_cases due : e.holdDue
  · exact .inr ⟨due.1, if_pos due⟩
  · exact .inl (if_neg due)

end Engine.ServiceMoved

/-- What an operation of the interstage or of a hold moves of the part. -/
structure State.ServiceMoved (s t : State) : Prop where
  engine : s.engine.ServiceMoved t.engine
  seq : t.seq = { s.seq with state := t.seq.state, stageTimer := t.seq.stageTimer, demands := t.seq.demands,
                             correction := t.seq.correction, budget := t.seq.budget }
  kept : t = { s with engine := t.engine, seq := t.seq, outbox := t.outbox, history := t.history }
  history : s.history.wf → t.history.wf

namespace State.ServiceMoved

variable {s t u : State}

theorem refl (s : State) : ServiceMoved s s := ⟨.refl _, rfl, rfl, id⟩

theorem trans (first : ServiceMoved s t) (second : ServiceMoved t u) : ServiceMoved s u where
  engine := first.engine.trans second.engine
  seq := by rw [second.seq, first.seq]
  kept := by rw [second.kept, first.kept]
  history := second.history ∘ first.history

theorem onEngine {f : Engine → Engine} (moved : s.engine.ServiceMoved (f s.engine)) : ServiceMoved s (s.onEngine f) :=
  ⟨moved, rfl, rfl, id⟩

theorem changeEntered (s : State) (wf : s.history.wf) : s.changeEntered.wf := by
  unfold State.changeEntered
  split
  · exact History.take_wf wf _ _
  · exact wf

theorem complete (s : State) : ServiceMoved s s.complete where
  engine := by rw [complete_only]; exact .completed _ _
  seq := by rw [complete_only]; exact reported_only _ _ _
  kept := by conv => lhs; rw [complete_only]
             rw [complete_only]
  history wf := by
    rw [complete_eq_reported]
    have entered := changeEntered s wf
    split
    · exact History.take_wf entered _ _
    · exact entered

theorem testCompletionOnce (s : State) : ServiceMoved s s.testCompletionOnce := by
  unfold State.testCompletionOnce
  split
  · exact complete s
  · exact refl s

end State.ServiceMoved

/-- A completion test in its cases (R53, R56): no completion; a completion alone; or, in RUN with a request in the slot, a
completion and the begin of that request, with its own test. -/
theorem testCompletion_cases (s : State) :
    s.engine.completes = false ∧ s.testCompletion = s ∨
    s.engine.completes = true ∧ (s.complete.engine.mode = .run → s.complete.engine.slot = none) ∧
      s.testCompletion = s.complete ∨
    ∃ r, s.engine.completes = true ∧ s.complete.engine.mode = .run ∧ s.complete.engine.slot = some r ∧
      s.testCompletion =
        (s.complete.onEngine fun e => Engine.beginInterstage r { e with slot := none }).testCompletionOnce := by
  unfold State.testCompletion
  by_cases due : s.engine.completes = true
  · rw [if_pos due]
    cases mode : s.complete.engine.mode
    case run =>
      cases slot : s.complete.engine.slot with
      | none => exact .inr (.inl ⟨due, fun _ => rfl, by simp only [mode, slot]⟩)
      | some r => exact .inr (.inr ⟨r, due, rfl, rfl, by simp only [mode, slot]⟩)
    all_goals exact .inr (.inl ⟨due, nofun, by simp only [mode]⟩)
  · exact .inl ⟨by simpa using due, if_neg due⟩

namespace State.ServiceMoved

theorem testCompletion (s : State) : ServiceMoved s s.testCompletion := by
  obtain ⟨-, eq⟩ | ⟨-, -, eq⟩ | ⟨r, -, -, -, eq⟩ := testCompletion_cases s <;> rw [eq]
  · exact refl s
  · exact complete s
  · have begun := Engine.ServiceMoved.beginInterstage r { s.complete.engine with slot := none }
    exact (complete s).trans ((onEngine ((Engine.ServiceMoved.emptySlot _).trans begun)).trans (testCompletionOnce _))

theorem beginRequest (r : StageRequest) (s : State) : ServiceMoved s (s.beginRequest r) :=
  (onEngine (.beginInterstage r _)).trans (testCompletion _)

theorem takeRequest (r : StageRequest) (s : State) : ServiceMoved s (s.takeRequest r) := by
  unfold State.takeRequest
  split
  · exact refl s
  · split
    · exact onEngine ⟨rfl, fun _ => rfl, .inl rfl⟩
    · exact beginRequest r s

theorem isRunning_mode {s t : State} (moved : ServiceMoved s t) : isRunning t.engine.mode = isRunning s.engine.mode := by
  obtain same | ⟨run, held⟩ := moved.engine.mode
  · rw [same]
  · rw [run, held]; rfl

/-- All forms but that of the service records stand through the interstage's operations. -/
theorem keepsForm {s t : State} (moved : ServiceMoved s t) (service : s.engine.serviceSound → t.engine.serviceSound) :
    KeepsForm s t := by
  have running := moved.isRunning_mode
  obtain ⟨⟨ekept, group, mode⟩, -, kept, history⟩ := moved
  have clock : t.engine.clock = s.engine.clock := by rw [ekept]
  have uptime : t.uptimeMs = s.uptimeMs := by rw [kept]
  refine { pending := by rw [kept], clock := fun h => ?_, safe := ?_, lines := fun lines => ?_, service,
           scan := by rw [kept]; exact id, faults := by rw [kept]; exact id, history, tests := ?_ }
  · show t.engine.clock = BitVec.ofNat 32 (t.uptimeMs / 100)
    rw [clock, uptime]; exact h
  · refine junctionSafe_of_same (by rw [kept]) (by rw [ekept]) (fun g => by rw [group]) (fun g => by rw [group]) ?_
    obtain same | ⟨run, held⟩ := mode
    · exact .inl same
    · rw [run, held]; exact .inr ⟨rfl, rfl⟩
  · have closed : t.engine.contactorClosed = s.engine.contactorClosed := by rw [ekept]
    have dim : t.engine.dimOn = s.engine.dimOn := by rw [ekept]
    refine ⟨?_, fun on => running ▸ lines.2 (dim ▸ on)⟩
    rw [closed, lines.1]
    obtain same | ⟨run, held⟩ := mode
    · rw [same]
    · rw [run, held]; rfl
  · have aspects : t.engine.aspects = s.engine.aspects := by rw [ekept]
    have cable : t.cable = s.cable := by rw [kept]
    have lamps : t.lamps = s.lamps := by rw [kept]
    have eligible : t.eligible = s.eligible := funext fun c => by
      rw [State.eligible, State.eligible, State.fitted, State.fitted, State.command, State.command, aspects, lamps]
    have fitted : t.fitted = s.fitted := funext fun c => by rw [State.fitted, State.fitted, lamps]
    intro sound
    simpa only [State.testsSound, State.flightSafe, State.queueSound, cable, eligible, fitted] using sound

end State.ServiceMoved

/-! ## The form of the service records -/

theorem inFlight_isRunning {e : Engine} (sound : e.serviceSound) (flight : e.interstage.inFlight = true) :
    isRunning e.mode = true := by
  by_contra stopped
  have := (sound.1 (by simpa using stopped)).1
  rw [flight] at this
  cases this

/-- Records in RUN or HELD are in form when no hold is pending and, in RUN, the slot is empty. -/
theorem serviceSound_of_settled {e : Engine} (running : isRunning e.mode = true) (pending : e.hold.pending = false)
    (slot : e.mode = .run → e.slot = none) : e.serviceSound :=
  ⟨fun stopped => absurd stopped (by rw [running]; nofun), fun h => absurd h (by rw [pending]; nofun),
    fun run full => absurd (slot run) full⟩

/-- Records in RUN or HELD are in form when an interstage is in flight and a hold is pending in RUN only. -/
theorem serviceSound_of_inFlight {e : Engine} (running : isRunning e.mode = true)
    (flight : e.interstage.inFlight = true) (pending : e.hold.pending = true → e.mode = .run) : e.serviceSound :=
  ⟨fun stopped => absurd stopped (by rw [running]; nofun), fun h => ⟨pending h, flight⟩, fun _ _ => flight⟩

theorem completed_isRunning {now : Clock} {e : Engine} (running : isRunning e.mode = true) :
    isRunning (e.completed now).mode = true := by
  unfold Engine.completed
  dsimp only
  split
  · rfl
  · exact running

/-- After a completion no hold is pending: one that was pending has entered HELD (R32). -/
theorem completed_not_pending {now : Clock} {e : Engine} (sound : e.serviceSound) :
    (e.completed now).hold.pending = false := by
  unfold Engine.completed
  dsimp only
  by_cases due : e.holdDue
  · rw [if_pos due]; rfl
  · rw [if_neg due]
    by_contra pending
    have pending : e.hold.pending = true := by simpa using pending
    exact due ⟨(sound.2.1 pending).1, pending⟩

@[simp] theorem complete_engine (s : State) : s.complete.engine = s.engine.completed s.nowSec := by rw [complete_only]

theorem completes_inFlight {e : Engine} (due : e.completes = true) : e.interstage.inFlight = true :=
  (Bool.and_eq_true_iff.mp due).1

theorem testCompletion_service (s : State) (sound : s.engine.serviceSound) : s.testCompletion.engine.serviceSound := by
  obtain ⟨-, eq⟩ | ⟨due, slot, eq⟩ | ⟨r, due, run, slot, eq⟩ := testCompletion_cases s <;> rw [eq]
  · exact sound
  · have running := inFlight_isRunning sound (completes_inFlight due)
    rw [complete_engine] at slot ⊢
    exact serviceSound_of_settled (completed_isRunning running) (completed_not_pending sound) slot
  · have pending := completed_not_pending (now := s.nowSec) sound
    rw [← complete_engine] at pending
    have begun : (s.complete.onEngine fun e => Engine.beginInterstage r { e with slot := none }).engine.serviceSound :=
      serviceSound_of_inFlight (congrArg isRunning run) rfl fun _ => run
    unfold State.testCompletionOnce
    split
    · rw [complete_engine]
      exact serviceSound_of_settled (completed_isRunning (congrArg isRunning run))
        (completed_not_pending begun) fun _ => rfl
    · exact begun

theorem beginRequest_service {r : StageRequest} {s : State} (running : isRunning s.engine.mode = true)
    (sound : s.engine.serviceSound) : (s.beginRequest r).engine.serviceSound := by
  have begun : (s.onEngine (Engine.beginInterstage r)).engine.serviceSound :=
    serviceSound_of_inFlight running rfl fun pending => (sound.2.1 pending).1
  unfold State.beginRequest
  exact testCompletion_service _ begun

theorem takeRequest_service {r : StageRequest} (s : State) (sound : s.engine.serviceSound) :
    (s.takeRequest r).engine.serviceSound := by
  unfold State.takeRequest
  split
  · exact sound
  · next running =>
    have running : isRunning s.engine.mode = true := by simpa using running
    split
    · next flight => exact serviceSound_of_inFlight running flight fun pending => (sound.2.1 pending).1
    · exact beginRequest_service running sound

namespace KeepsForm

theorem testCompletion (s : State) : KeepsForm s s.testCompletion :=
  (State.ServiceMoved.testCompletion s).keepsForm (testCompletion_service s)

theorem beginRequest (r : StageRequest) {s : State} (running : isRunning s.engine.mode = true) :
    KeepsForm s (s.beginRequest r) :=
  (State.ServiceMoved.beginRequest r s).keepsForm (beginRequest_service running)

theorem takeRequest (r : StageRequest) (s : State) : KeepsForm s (s.takeRequest r) :=
  (State.ServiceMoved.takeRequest r s).keepsForm (takeRequest_service s)

/-! ## Holds -/

theorem enterHeld {cause : HoldCause} {port : BudgetPort} {s : State} (run : s.engine.mode = .run) :
    KeepsForm s (s.enterHeld cause port) := by
  rw [enterHeld_eq]
  refine { safe := ?_, lines := fun lines => ?_, service := fun _ => ?_,
           history := fun wf => History.take_wf wf _ _ }
  · exact junctionSafe_of_same rfl rfl (fun _ => rfl) (fun _ => rfl) (.inr ⟨by rw [run]; rfl, rfl⟩)
  · exact ⟨by rw [lines.1, run]; rfl, fun _ => rfl⟩
  · exact serviceSound_of_settled rfl rfl nofun

/-- What moves of the engine neither groups, lines, mode nor clock keeps every form when it keeps that of the service
records. -/
theorem ofService {s : State} {e : Engine}
    (kept : e = { s.engine with interstage := e.interstage, slot := e.slot, hold := e.hold })
    (service : s.engine.serviceSound → e.serviceSound) : KeepsForm s { s with engine := e } := by
  rw [kept] at service ⊢
  exact { service }

theorem takeHold (cause : HoldCause) (port : BudgetPort) (s : State) : KeepsForm s (s.takeHold cause port) := by
  unfold State.takeHold
  cases mode : s.engine.mode
  case run =>
    dsimp only
    split
    · next flight =>
      split
      · exact ofService (s := s) rfl fun _ => serviceSound_of_inFlight (by rw [mode]; rfl) flight fun _ => mode
      · split
        · exact ofService (s := s) rfl fun _ => serviceSound_of_inFlight (by rw [mode]; rfl) flight fun _ => mode
        · exact refl s
    · exact enterHeld mode
  case held =>
    dsimp only
    split
    · refine (ofService (s := s) rfl fun sound => ?_).trans (record _ _)
      exact ⟨fun stopped => absurd (show isRunning s.engine.mode = false from stopped) (by rw [mode]; nofun),
        sound.2.1, sound.2.2⟩
    · exact refl s
  all_goals exact refl s

/-- A pending hold given up keeps the records in form (R34, R38). -/
theorem unpend {s : State} (running : isRunning s.engine.mode = true) :
    KeepsForm s (s.onEngine fun e => { e with hold := e.hold.unpend }) :=
  ofService (s := s) rfl fun sound =>
    ⟨fun stopped => absurd (show isRunning s.engine.mode = false from stopped) (by rw [running]; nofun), nofun, sound.2.2⟩

/-- The slot emptied keeps the records in form (R35). -/
theorem emptySlot (s : State) : KeepsForm s (s.onEngine fun e => { e with slot := none }) :=
  ofService (s := s) rfl fun sound =>
    ⟨fun stopped => let ⟨flight, target, _, hold⟩ := sound.1 stopped; ⟨flight, target, rfl, hold⟩, sound.2.1, nofun⟩

/-- HELD left for RUN keeps every form where no request is kept in the slot behind a completed interstage (R34). -/
theorem released {s : State} (held : s.engine.mode = .held)
    (slot : s.engine.interstage.inFlight = true ∨ s.engine.slot = none) : KeepsForm s s.released := by
  refine { safe := ?_, lines := fun lines => ⟨?_, fun _ => rfl⟩, service := fun sound => ?_,
           history := fun wf => History.take_wf wf _ _ }
  · exact junctionSafe_of_same rfl rfl (fun _ => rfl) (fun _ => rfl) (.inr ⟨by rw [held]; rfl, rfl⟩)
  · exact lines.1.trans (by rw [held]; rfl)
  · obtain flight | empty := slot
    · exact serviceSound_of_inFlight rfl flight nofun
    · exact serviceSound_of_settled rfl rfl fun _ => empty

end KeepsForm

/-- HELD left for RUN in its cases (R34, R56): a request kept in the slot, with no interstage in flight, is begun. -/
theorem leaveHeld_cases (s : State) :
    (s.engine.interstage.inFlight = true ∨ s.engine.slot = none) ∧ s.leaveHeld = s.released ∨
    ∃ r, s.engine.interstage.inFlight = false ∧ s.engine.slot = some r ∧
      s.leaveHeld = (s.onEngine fun e => { e with slot := none }).released.beginRequest r := by
  unfold State.leaveHeld
  dsimp only
  split
  · next r flight slot => exact .inr ⟨r, flight, slot, rfl⟩
  · next other =>
    refine .inl ⟨?_, rfl⟩
    cases flight : s.engine.interstage.inFlight with
    | true => exact .inl rfl
    | false =>
      cases slot : s.engine.slot with
      | none => exact .inr rfl
      | some r => exact absurd slot (other r flight)

namespace KeepsForm

theorem leaveHeld {s : State} (held : s.engine.mode = .held) : KeepsForm s s.leaveHeld := by
  obtain ⟨slot, eq⟩ | ⟨r, -, -, eq⟩ := leaveHeld_cases s <;> rw [eq]
  · exact released held slot
  · exact ((emptySlot s).trans (released held (.inr rfl))).trans (beginRequest r rfl)

end KeepsForm

end Sys2Proof.Machine
end

section
/-! The group sequences and the mode machine (R8 to R12, R20 to R29, R51, R52, R57 to R60): the states they lead a group to,
and that they keep the junction safe and every other form. -/

namespace Sys2Proof.Machine

/-! ## A safe junction in RUN and HELD, and outside them -/

theorem junctionSafe_iff_of_running {s : State} (running : isRunning s.engine.mode = true) :
    s.junctionSafe ↔
      matrixSound s.conflicts.matrix = true ∧ s.engine.startPhase = .none ∧
      (∀ g : GroupId, runningState s.engine.groups[g].type s.engine.groups[g].state = true) ∧
      ∀ i j : GroupId, s.conflict i j = true → s.engine.groups[i].state = .red ∨ s.engine.groups[j].state = .red := by
  have notStart : s.engine.mode ≠ .start := fun h => by rw [h] at running; cases running
  have shown : ∀ type state,
      shownState s.engine.mode s.engine.startPhase type state = runningState type state := fun type state => by
    revert running
    cases s.engine.mode <;> simp [isRunning, shownState]
  have phase : s.engine.phaseSound ↔ s.engine.startPhase = .none := iff_true_right notStart
  simp only [State.junctionSafe, State.modeSound, State.conflictsApart, phase, Engine.statesSound, shown, running,
    forall_const, and_assoc]

theorem junctionSafe_iff_of_stopped {s : State} (stopped : isRunning s.engine.mode = false) :
    s.junctionSafe ↔ matrixSound s.conflicts.matrix = true ∧ s.engine.phaseSound ∧ s.engine.statesSound := by
  simp only [State.junctionSafe, State.modeSound, State.conflictsApart, stopped, Bool.false_eq_true, false_implies,
    and_true]

/-- Conflicts are of both groups alike under a sound matrix (R40). -/
theorem conflict_symm {s : State} (sound : matrixSound s.conflicts.matrix = true) {i j : GroupId}
    (meet : s.conflict i j = true) : s.conflict j i = true := by
  have symmetric : s.conflicts.matrix[i][j] = s.conflicts.matrix[j][i] := by
    simp only [matrixSound, allGroups, List.all_eq_true, List.mem_finRange, forall_const, Bool.and_eq_true,
      beq_iff_eq] at sound
    exact (sound i).2 j
  rw [State.conflict, conflictUnder, ← symmetric, Bool.and_assoc, Bool.and_comm (s.typeOf j != .unused),
    ← Bool.and_assoc]
  exact meet

/-- A sound matrix has a false diagonal, so no group conflicts with itself (R40). -/
theorem conflict_irrefl {s : State} (sound : matrixSound s.conflicts.matrix = true) (i : GroupId) :
    s.conflict i i = false := by
  have diagonal : s.conflicts.matrix[i][i] = false := by
    simp only [matrixSound, allGroups, List.all_eq_true, List.mem_finRange, forall_const, Bool.and_eq_true,
      Bool.not_eq_true'] at sound
    exact (sound i).1
  rw [State.conflict, conflictUnder, diagonal]
  rfl

/-! ## The states a group is led to -/

/-- What leads a group from state to state within its type's sequence without starting it: its type stands, the new state is
one of its type's, and a group in RED stays there. -/
structure Group.KeepsRed (g g' : Group) : Prop where
  type : g'.type = g.type
  running : runningState g.type g.state = true → runningState g'.type g'.state = true
  red : g.state = .red → g'.state = .red

namespace Group.KeepsRed

theorem refl (g : Group) : KeepsRed g g := ⟨rfl, id, id⟩

theorem trans {g g' g'' : Group} (first : KeepsRed g g') (second : KeepsRed g' g'') : KeepsRed g g'' :=
  ⟨second.type.trans first.type, second.running ∘ first.running, second.red ∘ first.red⟩

/-- A record that differs in neither type nor state. -/
theorem of_same {g g' : Group} (type : g'.type = g.type) (state : g'.state = g.state) : KeepsRed g g' :=
  ⟨type, by rw [type, state]; exact id, by rw [state]; exact id⟩

theorem endGreen {g : Group} (now : Clock) (green : g.state = .green) : KeepsRed g (g.endGreen now) := by
  refine ⟨rfl, fun running => ?_, fun red => by rw [green] at red; cases red⟩
  rw [green] at running
  revert running
  unfold Group.endGreen
  dsimp only
  cases g.type <;> simp [runningState]

theorem enterRed {g : Group} (state : g.state = .amber ∨ g.state = .clearance) : KeepsRed g g.enterRed := by
  refine ⟨rfl, fun running => ?_, fun _ => rfl⟩
  show runningState g.type .red = true
  obtain amber | clearance := state
  · rw [amber] at running; revert running; cases g.type <;> simp [runningState]
  · rw [clearance] at running; revert running; cases g.type <;> simp [runningState]

theorem enterGreen {g : Group} (now : Clock) (state : g.state = .redAmber) : KeepsRed g (g.enterGreen now) := by
  refine ⟨rfl, fun running => ?_, fun red => by rw [state] at red; cases red⟩
  show runningState g.type .green = true
  rw [state] at running
  revert running
  cases g.type <;> simp [runningState]

/-- The ending transitions of R12 part 3. -/
theorem ending3 (now : Clock) (inTarget : Bool) (g : Group) : KeepsRed g (g.ending3 now inTarget) := by
  unfold Group.ending3
  split
  · next green => split; exacts [endGreen now green, refl g]
  · next amber => split; exacts [enterRed (.inl amber), refl g]
  · next clearance => split; exacts [enterRed (.inr clearance), refl g]
  · exact refl g

/-- The timed transitions of R8 to R10. -/
theorem timedExit (now : Clock) (g : Group) : KeepsRed g (g.timedExit now) := by
  unfold Group.timedExit
  split
  · next redAmber => split; exacts [enterGreen now redAmber, refl g]
  · next amber => split; exacts [enterRed (.inl amber), refl g]
  · next clearance => split; exacts [enterRed (.inr clearance), refl g]
  · exact refl g

/-- What inhibition does at once to a group that is started or in GREEN (R58). -/
theorem inhibitNow (now : Clock) (g : Group) : KeepsRed g (g.inhibitNow now) := by
  unfold Group.inhibitNow
  split
  · next redAmber =>
    refine ⟨rfl, fun running => ?_, fun _ => rfl⟩
    show runningState g.type .red = true
    rw [redAmber] at running
    revert running
    cases g.type <;> simp [runningState]
  · next green => exact (endGreen now green).trans (of_same rfl rfl)
  · exact refl g

end Group.KeepsRed

/-- In RUN and HELD, groups led on without a start leave the junction safe. -/
theorem junctionSafe_of_keepsRed {s t : State} (running : isRunning s.engine.mode = true)
    (matrix : t.conflicts.matrix = s.conflicts.matrix) (mode : t.engine.mode = s.engine.mode)
    (phase : t.engine.startPhase = s.engine.startPhase)
    (group : ∀ g : GroupId, Group.KeepsRed s.engine.groups[g] t.engine.groups[g]) (safe : s.junctionSafe) :
    t.junctionSafe := by
  obtain ⟨sound, phases, shown, apart⟩ := (junctionSafe_iff_of_running running).mp safe
  refine (junctionSafe_iff_of_running (mode ▸ running)).mpr
    ⟨matrix ▸ sound, phase ▸ phases, fun g => (group g).running (shown g), fun i j meet => ?_⟩
  rw [conflict_of_same matrix fun g => (group g).type] at meet
  exact (apart i j meet).imp (group i).red (group j).red

namespace KeepsForm

/-- New group records and start conditions keep every form when they keep the junction safe. -/
theorem ofGroups {s t : State}
    (kept : t = { s with engine := { s.engine with groups := t.engine.groups, startTests := t.engine.startTests } })
    (safe : s.junctionSafe → t.junctionSafe) : KeepsForm s t := by
  rw [kept] at safe ⊢
  exact { safe }

end KeepsForm

/-! ## Inhibition -/

/-- A group as a recomputation of inhibition acts on it, before its flags are written (R58). -/
def State.actedGroup (s : State) (g : GroupId) : Group :=
  if s.inhibitedNow g && !s.engine.groups[g].inhibited && isRunning s.engine.mode then
    s.engine.groups[g].inhibitNow s.engine.clock
  else s.engine.groups[g]

theorem recomputeInhibition_group (s : State) (g : GroupId) :
    s.recomputeInhibition.engine.groups[g] =
      { s.actedGroup g with
        inhibited := s.inhibitedNow g
        withheld := (s.actedGroup g).withheld ||
          keptOut s.engine.interstage.target g { s.actedGroup g with inhibited := s.inhibitedNow g } } :=
  Vector.getElem_ofFn _

theorem actedGroup_of_stopped {s : State} (stopped : isRunning s.engine.mode = false) (g : GroupId) :
    s.actedGroup g = s.engine.groups[g] := by
  unfold State.actedGroup
  rw [stopped, Bool.and_false, if_neg Bool.false_ne_true]

theorem actedGroup_keepsRed (s : State) (g : GroupId) : Group.KeepsRed s.engine.groups[g] (s.actedGroup g) := by
  unfold State.actedGroup
  split
  · exact .inhibitNow _ _
  · exact .refl _

namespace KeepsForm

theorem recomputeInhibition (s : State) : KeepsForm s s.recomputeInhibition := by
  refine ofGroups rfl fun safe => ?_
  cases running : isRunning s.engine.mode with
  | true =>
    refine junctionSafe_of_keepsRed running rfl rfl rfl (fun g => ?_) safe
    rw [recomputeInhibition_group]
    exact (actedGroup_keepsRed s g).trans (.of_same rfl rfl)
  | false =>
    have types : ∀ g : GroupId, s.recomputeInhibition.engine.groups[g].type = s.engine.groups[g].type := fun g => by
      rw [recomputeInhibition_group]
      exact (actedGroup_keepsRed s g).type
    have states : ∀ g : GroupId, s.recomputeInhibition.engine.groups[g].state = s.engine.groups[g].state := fun g => by
      rw [recomputeInhibition_group]
      show (s.actedGroup g).state = _
      rw [actedGroup_of_stopped running]
    exact junctionSafe_of_same (by rw [recomputeInhibition_only]) (by rw [recomputeInhibition_only]) types states
      (.inl (by rw [recomputeInhibition_only])) safe

theorem inhibitionEvent (s : State) : KeepsForm s s.inhibitionEvent := by
  unfold State.inhibitionEvent
  dsimp only
  split
  · exact (recomputeInhibition s).trans (testCompletion _)
  · exact recomputeInhibition s

theorem revalidate (s : State) : KeepsForm s s.revalidate := (onSeq s _).trans (recomputeInhibition _)

/-! ## The decisecond step -/

theorem takeEndings (s : State) : KeepsForm s s.takeEndings := by
  unfold State.takeEndings
  split
  · next running =>
    refine ofGroups (s := s) rfl fun safe => junctionSafe_of_keepsRed running rfl rfl rfl (fun g => ?_) safe
    simpa using Group.KeepsRed.ending3 _ _ s.engine.groups[g]
  · exact refl s

end KeepsForm

/-- The record a group has after its starting transition (R12 part 4). -/
def State.startedGroup (s : State) (j : GroupId) : Group :=
  match s.engine.groups[j].state with
  | .red =>
    if s.engine.interstage.target[j] && (s.startTest j).holds then s.engine.groups[j].beginStart s.engine.clock
    else s.engine.groups[j]
  | .redAmber =>
    if s.engine.groups[j].redAmber ≤ s.engine.groups[j].timeInState then s.engine.groups[j].enterGreen s.engine.clock
    else s.engine.groups[j]
  | _ => s.engine.groups[j]

theorem startGroup_eq (s : State) (j : GroupId) :
    s.startGroup j =
      { s with
        engine.groups := put s.engine.groups j (s.startedGroup j)
        engine.startTests := put s.engine.startTests j (s.startTest j) } := by
  unfold State.startGroup State.startedGroup
  rfl

theorem put_getElem {α : Type} {n : Nat} (v : Vector α n) (i k : Fin n) (x : α) :
    (put v i x)[k] = if k = i then x else v[k] := by
  simp only [put, Fin.getElem_fin, Vector.getElem_set, Fin.ext_iff, eq_comm]

/-- A group that starts was in RED, and every group that conflicts with it is in RED (R52). -/
theorem startedGroup_cases (s : State) (j : GroupId) :
    Group.KeepsRed s.engine.groups[j] (s.startedGroup j) ∨
    s.engine.groups[j].state = .red ∧ s.startedGroup j = s.engine.groups[j].beginStart s.engine.clock ∧
      s.engine.interstage.target[j] = true ∧ (s.startTest j).holds = true := by
  unfold State.startedGroup
  split
  · next red =>
    split
    · next due => exact .inr ⟨red, rfl, Bool.and_eq_true_iff.mp due⟩
    · exact .inl (.refl _)
  · next redAmber =>
    split
    · exact .inl (.enterGreen _ redAmber)
    · exact .inl (.refl _)
  · exact .inl (.refl _)

theorem beginStart_running {g : Group} (now : Clock) (red : g.state = .red)
    (running : runningState g.type g.state = true) :
    runningState (g.beginStart now).type (g.beginStart now).state = true := by
  rw [red] at running
  unfold Group.beginStart
  cases type : g.type <;> simp_all [runningState, Group.enterGreen]

theorem startTest_intergreens {s : State} {j : GroupId} (holds : (s.startTest j).holds = true) {i : GroupId}
    (meet : s.conflict i j = true) : s.engine.groups[i].state = .red := by
  simp only [StartTest.holds, State.startTest, Bool.and_eq_true, List.all_eq_true, allGroups, List.mem_finRange,
    forall_const] at holds
  have test := holds.2 i
  rw [meet] at test
  simp only [Bool.not_true, Bool.false_or, Bool.and_eq_true, beq_iff_eq] at test
  exact test.1

theorem beginStart_type (now : Clock) (g : Group) : (g.beginStart now).type = g.type := by
  unfold Group.beginStart
  split <;> rfl

namespace KeepsForm

theorem startGroup {s : State} (running : isRunning s.engine.mode = true) (j : GroupId) : KeepsForm s (s.startGroup j) := by
  refine ofGroups rfl fun safe => ?_
  have record : ∀ g : GroupId,
      (s.startGroup j).engine.groups[g] = if g = j then s.startedGroup j else s.engine.groups[g] := fun g => by
    rw [startGroup_eq, put_getElem]
  obtain led | ⟨red, started, -, holds⟩ := startedGroup_cases s j
  · refine junctionSafe_of_keepsRed (s := s) running rfl rfl rfl (fun g => ?_) safe
    rw [record]
    split
    · next same => rw [same]; exact led
    · exact .refl _
  · obtain ⟨sound, phases, shown, apart⟩ := (junctionSafe_iff_of_running running).mp safe
    rw [started] at record
    have type : ∀ g : GroupId, (s.startGroup j).engine.groups[g].type = s.engine.groups[g].type := fun g => by
      rw [record]
      split
      · next same => rw [same, beginStart_type]
      · rfl
    refine (junctionSafe_iff_of_running (by exact running)).mpr ⟨sound, phases, fun g => ?_, fun i k meet => ?_⟩
    · rw [record]
      split
      · next same => subst same; exact beginStart_running _ red (shown g)
      · exact shown g
    · rw [conflict_of_same (s := s) (t := s.startGroup j) rfl type] at meet
      rw [record, record]
      by_cases hi : i = j
      · subst hi
        have apartFrom : k ≠ i := fun h => by rw [h, conflict_irrefl sound] at meet; cases meet
        rw [if_pos rfl, if_neg apartFrom]
        exact .inr (startTest_intergreens holds (conflict_symm sound meet))
      · rw [if_neg hi]
        by_cases hk : k = j
        · subst hk
          exact .inl (startTest_intergreens holds meet)
        · rw [if_neg hk]
          exact apart i k meet

end KeepsForm

end Sys2Proof.Machine
end

section
/-! Cable tests (R130 to R142): the test queue stays in form, and a test starts on an eligible core only, so that no operation
puts or leaves a test on a core that is lit. -/

namespace Sys2Proof.Machine

/-! ## The test queue -/

/-- A queue of at most 8 fitted cores, none twice (R134, R136). -/
structure QueueForm (fitted : CoreId → Nat) (queue : List QueueEntry) : Prop where
  room : queue.length ≤ 8
  distinct : (queue.map fun e => e.core).Nodup
  fitted : ∀ e ∈ queue, 0 < fitted e.core

theorem queueSound_iff {s : State} : s.queueSound ↔ QueueForm s.fitted s.cable.queue :=
  ⟨fun ⟨room, distinct, fitted⟩ => ⟨room, distinct, fitted⟩, fun ⟨room, distinct, fitted⟩ => ⟨room, distinct, fitted⟩⟩

namespace QueueForm

variable {fitted : CoreId → Nat} {queue : List QueueEntry}

theorem nil : QueueForm fitted [] := ⟨by simp, by simp, by simp⟩

/-- What leaves every entry's core alone leaves the queue in form. -/
theorem map (form : QueueForm fitted queue) {f : QueueEntry → QueueEntry} (core : ∀ e, (f e).core = e.core) :
    QueueForm fitted (queue.map f) := by
  have cores : (queue.map f).map (fun e => e.core) = queue.map fun e => e.core := by
    simp only [List.map_map, Function.comp_def, core]
  refine ⟨by rw [List.length_map]; exact form.room, cores ▸ form.distinct, fun e he => ?_⟩
  obtain ⟨e', he', rfl⟩ := List.mem_map.mp he
  rw [core]
  exact form.fitted e' he'

theorem filter (form : QueueForm fitted queue) (p : QueueEntry → Bool) : QueueForm fitted (queue.filter p) :=
  ⟨(List.length_filter_le _ _).trans form.room, form.distinct.sublist (List.filter_sublist.map _),
    fun e he => form.fitted e (List.mem_filter.mp he).1⟩

theorem markSeen (form : QueueForm fitted queue) (elig : CoreId → Bool) : QueueForm fitted (markSeen elig queue) :=
  form.map fun e => by split <;> rfl

/-- An entry for a fitted core that is not queued may join a queue with room. -/
theorem append (form : QueueForm fitted queue) {e : QueueEntry} (room : queue.length < 8)
    (absent : ∀ e' ∈ queue, e'.core ≠ e.core) (fit : 0 < fitted e.core) : QueueForm fitted (queue ++ [e]) := by
  refine ⟨by rw [List.length_append, List.length_singleton]; omega, ?_, fun e' he' => ?_⟩
  · rw [List.map_append, List.nodup_append]
    refine ⟨form.distinct, List.nodup_singleton _, ?_⟩
    rintro c hc _ hnew rfl
    obtain ⟨e', he', same⟩ := List.mem_map.mp hc
    exact absent e' he' (same.trans (List.mem_singleton.mp hnew))
  · obtain old | new := List.mem_append.mp he'
    · exact form.fitted e' old
    · rw [List.mem_singleton.mp new]; exact fit

/-- The entry of an interrupted test takes its place at the head (R141). -/
theorem entryToHead (form : QueueForm fitted queue) (now : Clock) (c : CoreId) :
    QueueForm fitted (entryToHead now c queue) := by
  unfold Machine.entryToHead
  split
  · next e found =>
    have held : e ∈ queue := List.mem_of_find?_eq_some found
    have core : e.core = c := by simpa using List.find?_some found
    have rest := form.filter fun x => !(x.core == c)
    have shorter : (queue.filter fun x => !(x.core == c)).length < queue.length :=
      List.length_filter_lt_length_iff_exists.mpr ⟨e, held, by simp [core]⟩
    refine ⟨?_, ?_, fun e' he' => ?_⟩
    · rw [List.length_cons]
      exact Nat.lt_of_lt_of_le shorter form.room
    · rw [List.map_cons, List.nodup_cons]
      refine ⟨fun twice => ?_, rest.distinct⟩
      obtain ⟨x, hx, same⟩ := List.mem_map.mp twice
      have other : x.core ≠ c := by simpa using (List.mem_filter.mp hx).2
      exact other (same.trans core)
    · obtain head | tail := List.mem_cons.mp he'
      · rw [head]; exact form.fitted e held
      · exact rest.fitted e' tail
  · exact form

end QueueForm

/-! ## The cable unit -/

/-- A cable unit whose test in flight, if any, is on an eligible core, and whose queue is in form. -/
structure CableUnit.Sound (elig : CoreId → Bool) (fitted : CoreId → Nat) (u : CableUnit) : Prop where
  flight : ∀ f, u.flight = some f → elig f.core = true
  queue : QueueForm fitted u.queue

theorem testsSound_iff {s : State} : s.testsSound ↔ s.cable.Sound s.eligible s.fitted :=
  ⟨fun ⟨flight, queue⟩ => ⟨flight, queueSound_iff.mp queue⟩, fun ⟨flight, queue⟩ => ⟨flight, queueSound_iff.mpr queue⟩⟩

/-- A selection takes an eligible core (R137). -/
theorem pick_eligible {u : CableUnit} {elig : CoreId → Bool} {c : CoreId} {source : TestSource}
    (picked : u.pick elig = some (c, source)) : elig c = true := by
  unfold CableUnit.pick at picked
  split at picked
  · next e found =>
    obtain ⟨rfl, -⟩ := Prod.mk.inj (Option.some.inj picked)
    simpa using List.find?_some found
  · split at picked
    · obtain ⟨c', found, same⟩ := Option.map_eq_some_iff.mp picked
      obtain ⟨rfl, -⟩ := Prod.mk.inj same
      have both : (u.testSet[c'] && elig c') = true := by simpa using List.find?_some found
      exact (Bool.and_eq_true_iff.mp both).2
    · cases picked

/-- What a selection makes of the unit's record, before the unit state is settled (R137). -/
def CableUnit.selected (elig : CoreId → Bool) (now : Clock) (u : CableUnit) : CableUnit :=
  if !u.enabled || u.flight.isSome then u
  else
    match ({ u with queue := markSeen elig u.queue } : CableUnit).pick elig with
    | some (core, source) => { u with queue := markSeen elig u.queue }.startTest now core source
    | none => { u with queue := markSeen elig u.queue }

theorem selectWith_eq (elig : CoreId → Bool) (s : State) :
    s.selectWith elig = (s.onCable (CableUnit.selected elig s.nowMs)).settleUnit := rfl

theorem startTest_queueForm {fitted : CoreId → Nat} {u : CableUnit} (form : QueueForm fitted u.queue) (now : Clock)
    (c : CoreId) (source : TestSource) : QueueForm fitted (u.startTest now c source).queue := by
  cases source
  · exact form.map fun e => by split <;> rfl
  · exact form

theorem CableUnit.Sound.selected {elig elig' : CoreId → Bool} {fitted : CoreId → Nat} {u : CableUnit}
    (sound : u.Sound elig fitted) (eligible : ∀ c, elig' c = true → elig c = true) (now : Clock) :
    (u.selected elig' now).Sound elig fitted := by
  unfold CableUnit.selected
  split
  · exact sound
  · next ready =>
    have idle : u.flight = none := by
      simp only [Bool.or_eq_true, Bool.not_eq_true', not_or] at ready
      simpa using ready.2
    have marked := sound.queue.markSeen elig'
    split
    · next c source picked =>
      refine ⟨fun f started => ?_, startTest_queueForm (u := { u with queue := Machine.markSeen elig' u.queue }) marked
        now c source⟩
      rw [← Option.some.inj started]
      exact eligible c (pick_eligible picked)
    · refine ⟨fun f flying => ?_, marked⟩
      rw [show _ = none from idle] at flying
      cases flying

theorem finishStop_eq (u : CableUnit) :
    u.finishStop = { u with cyclicRunning := u.cyclicRunning && !u.stopWaiting, stopWaiting := false } := by
  unfold CableUnit.finishStop
  cases h : u.stopWaiting
  · rw [if_neg Bool.false_ne_true, Bool.not_false, Bool.and_true, ← h]
  · rw [if_pos rfl, Bool.not_true, Bool.and_false]

/-- The test queue after an abort: the entry under test returns to its head or leaves it; a cyclic test leaves it alone
(R136, R141). -/
def Flight.abortedQueue (entry : AbortEntry) (now : Clock) (f : Flight) (queue : List QueueEntry) : List QueueEntry :=
  match f.source, entry with
  | .queue, .toHead => entryToHead now f.core queue
  | .queue, .removed => queue.filter fun e => !(e.core == f.core)
  | .cyclic, _ => queue

/-- The abort of a test as R141 lays it down: the record INTERRUPTED, the queue, a waiting stop taken, the interval
restarted and no test in flight. -/
theorem abortFlight_eq (entry : AbortEntry) (f : Flight) (s : State) :
    s.abortFlight entry f =
      { s with
        cable.records := change s.cable.records f.core (CableRecord.interrupt s.nowSec)
        cable.queue := f.abortedQueue entry s.nowMs s.cable.queue
        cable.cyclicRunning := s.cable.cyclicRunning && !s.cable.stopWaiting
        cable.stopWaiting := false
        cable.lastTestEnd := s.nowMs
        cable.intervalPassed := false
        cable.intervalTimer := true
        cable.flight := none } := by
  unfold State.abortFlight Flight.abortedQueue
  cases f.source <;> cases entry <;> simp only [finishStop_eq] <;> rfl

theorem QueueForm.aborted {fitted : CoreId → Nat} {queue : List QueueEntry} (form : QueueForm fitted queue)
    (entry : AbortEntry) (now : Clock) (f : Flight) : QueueForm fitted (f.abortedQueue entry now queue) := by
  unfold Flight.abortedQueue
  split
  · exact form.entryToHead _ _
  · exact form.filter _
  · exact form

/-- The abort of a test leaves none in flight, and the queue in form (R141). -/
theorem abortFlight_sound {elig : CoreId → Bool} {s : State} (form : QueueForm s.fitted s.cable.queue)
    (entry : AbortEntry) (f : Flight) : (s.abortFlight entry f).cable.Sound elig s.fitted := by
  rw [abortFlight_eq]
  exact ⟨nofun, form.aborted entry _ f⟩

/-! ## Notices -/

theorem settleUnit_sound {elig : CoreId → Bool} {fitted : CoreId → Nat} {s : State}
    (sound : s.cable.Sound elig fitted) : s.settleUnit.cable.Sound elig fitted := ⟨sound.flight, sound.queue⟩

theorem selectWith_sound {elig elig' : CoreId → Bool} {fitted : CoreId → Nat} {s : State}
    (sound : s.cable.Sound elig fitted) (eligible : ∀ c, elig' c = true → elig c = true) :
    (s.selectWith elig').cable.Sound elig fitted :=
  settleUnit_sound (s := s.onCable _) (sound.selected eligible s.nowMs)

/-- A notice for a core ends the test on it, and the selection that follows takes a core that `elig` gives (R141). -/
theorem notice_sound {elig may : CoreId → Bool} {s : State} {c : CoreId} (may_of : ∀ x, elig x = true → may x = true)
    (sound : s.cable.Sound (fun x => may x || x == c) s.fitted) : (s.notice elig c).cable.Sound may s.fitted := by
  unfold State.notice
  split
  · next f flying =>
    split
    · exact selectWith_sound (s := s.abortFlight .toHead f) (abortFlight_sound sound.queue _ f) may_of
    · next other =>
      refine ⟨fun f' flying' => ?_, sound.queue⟩
      obtain rfl : f = f' := Option.some.inj (flying.symm.trans flying')
      simpa [other] using sound.flight f flying
  · next idle => exact ⟨fun f flying => (by rw [idle] at flying; cases flying), sound.queue⟩

theorem notice_fitted (elig : CoreId → Bool) (s : State) (c : CoreId) : (s.notice elig c).fitted = s.fitted := by
  rw [notice_only]
  rfl

/-- After a notice for every core of a list no test is on one of them that `elig` does not give (R7, R141). -/
theorem notices_sound {elig : CoreId → Bool} (cores : List CoreId) (s : State)
    (sound : s.cable.Sound (fun x => elig x || cores.contains x) s.fitted) :
    (cores.foldl (State.notice elig) s).cable.Sound elig s.fitted := by
  induction cores generalizing s with
  | nil => simpa using sound
  | cons c rest ih =>
    rw [List.foldl_cons, ← notice_fitted elig s c]
    refine ih _ ?_
    rw [notice_fitted]
    refine notice_sound (fun x given => by simp [given]) ⟨fun f flying => ?_, sound.queue⟩
    have := sound.flight f flying
    simp only [List.contains_cons, Bool.or_eq_true] at this ⊢
    tauto

/-- Once the energise notices of an event are taken, a test in flight is on a core that is and stays OFF (R7, R141). -/
theorem notified_sound {s : State} (sound : s.testsSound) :
    s.notified.cable.Sound (fun c => s.eligible c && s.wantedOutputs[c].command == .off) s.fitted := by
  rw [testsSound_iff] at sound
  refine notices_sound _ s ⟨fun f flying => ?_, sound.queue⟩
  have eligible := sound.flight f flying
  have off : s.engine.aspects[f.core].command = .off := by
    simpa [State.command] using (Bool.and_eq_true_iff.mp eligible).2
  by_cases stays : s.wantedOutputs[f.core].command = .off
  · simp only [eligible, stays, beq_self_eq_true, Bool.and_self, Bool.true_or]
  · have noticed : f.core ∈ allCores.filter fun c =>
        energised s.engine.aspects[c].command s.wantedOutputs[c].command :=
      List.mem_filter.mpr ⟨List.mem_finRange _, by rw [energised, off]; simpa using stays⟩
    rw [Bool.or_eq_true]
    exact .inr (List.contains_iff_mem.mpr noticed)

theorem present_eligible (s : State) (c : CoreId) :
    s.present.eligible c = (decide (0 < s.fitted c) && s.wantedOutputs[c].command == .off) := by
  rw [State.eligible, State.fitted, State.command, present_lamps, present_engine]
  rfl

namespace KeepsForm

/-- Bringing the outputs up to date keeps every form: a test on a core that is lit has been ended before (R7, R141). -/
theorem present (s : State) : KeepsForm s s.present where
  pending := by rw [present_only]
  clock := by rw [present_only]; exact id
  safe := by rw [present_only]; exact id
  lines := by rw [present_only]; exact id
  service := by rw [present_only]; exact id
  scan := by rw [present_only]; exact id
  faults := by rw [present_only]; exact id
  history := by rw [present_only]; exact id
  tests sound := by
    obtain ⟨flight, queue⟩ := notified_sound sound
    rw [testsSound_iff, present_cable]
    refine ⟨fun f flying => ?_, ?_⟩
    · have := flight f flying
      simp only [State.eligible, Bool.and_eq_true] at this
      rw [present_eligible, Bool.and_eq_true]
      exact ⟨this.1.1, this.2⟩
    · have fitted : s.present.fitted = s.fitted := funext fun c => by rw [State.fitted, State.fitted, present_lamps]
      rw [fitted]
      exact queue

/-! ## The operations of the unit -/

/-- A new record of the cable unit keeps every form when it is itself in form. -/
theorem ofCable {s t : State} (kept : t = { s with cable := t.cable })
    (sound : s.cable.Sound s.eligible s.fitted → t.cable.Sound s.eligible s.fitted) : KeepsForm s t := by
  rw [kept]
  exact { tests := fun before => testsSound_iff.mpr (sound (testsSound_iff.mp before)) }

/-- A record of the unit that has the same flight and queue. -/
theorem onCable {s : State} {f : CableUnit → CableUnit} (flight : ∀ u, (f u).flight = u.flight)
    (queue : ∀ u, (f u).queue = u.queue) : KeepsForm s (s.onCable f) :=
  ofCable rfl fun sound => ⟨fun x flying => sound.flight x (flight _ ▸ flying), (queue s.cable).symm ▸ sound.queue⟩

theorem settleUnit (s : State) : KeepsForm s s.settleUnit := onCable (fun _ => rfl) fun _ => rfl

theorem select (s : State) : KeepsForm s s.select := ofCable rfl fun sound => selectWith_sound sound fun _ => id

theorem notice {elig : CoreId → Bool} {s : State} {c : CoreId} (eligible : ∀ x, elig x = true → s.eligible x = true) :
    KeepsForm s (s.notice elig c) :=
  ofCable (notice_only elig c s) fun sound =>
    notice_sound eligible ⟨fun f flying => by simp [sound.flight f flying], sound.queue⟩

theorem markSeen (s : State) (which : CoreId → Bool) :
    KeepsForm s (s.onCable fun u => { u with queue := markSeen which u.queue }) :=
  ofCable rfl fun sound => ⟨sound.flight, sound.queue.markSeen which⟩

theorem enqueue {s : State} {c : CoreId} {origin : QueueOrigin} (absent : s.cable.queued c = false)
    (room : s.cable.queue.length < 8) (fit : 0 < s.fitted c) : KeepsForm s (s.enqueue c origin) := by
  have added : KeepsForm s (s.onCable (CableUnit.add s.nowMs c origin (s.eligible c))) :=
    ofCable rfl fun sound => ⟨sound.flight, sound.queue.append room (by simpa [CableUnit.queued] using absent) fit⟩
  exact added.trans (select _)

theorem declared (c : CoreId) (origin : QueueOrigin) (s : State) : KeepsForm s (s.declared c origin) := by
  unfold State.declared
  split
  · exact refl s
  · next taken =>
    simp only [Bool.or_eq_true, decide_eq_true_eq, beq_iff_eq, not_or, Bool.not_eq_true, Nat.not_le] at taken
    obtain ⟨⟨⟨-, absent⟩, room⟩, fit⟩ := taken
    exact enqueue absent room (Nat.pos_of_ne_zero fit)

/-- The end of a test, completed or aborted, leaves none in flight and at most takes an entry from the queue. -/
theorem endTest {s : State} {f : CableUnit → CableUnit} (flight : ∀ u, (f u).flight = none)
    (queue : ∀ u, (f u).queue = u.queue ∨ ∃ p, (f u).queue = u.queue.filter p) : KeepsForm s (s.onCable f) := by
  refine ofCable rfl fun sound => ⟨fun x flying => ?_, ?_⟩
  · rw [State.onCable_cable, flight] at flying
    cases flying
  · obtain same | ⟨p, thinned⟩ := queue s.cable
    · rw [State.onCable_cable, same]; exact sound.queue
    · rw [State.onCable_cable, thinned]; exact sound.queue.filter p

/-- A message sent or not. -/
theorem sendIf {s t : State} {c : Prop} [Decidable c] {messages : List Instr} (kept : KeepsForm s t) :
    KeepsForm s (if c then t.send messages else t) := by
  split
  · exact kept.trans (send t messages)
  · exact kept

theorem completeTest (f : Flight) (negative : Int) (s : State) : KeepsForm s (s.completeTest f negative) := by
  have ended : ∀ t : State, KeepsForm t
      (t.onCable fun u => ((u.settleSource f).finishStop).restartInterval t.nowMs) := fun t => by
    refine endTest (fun _ => rfl) fun u => ?_
    rw [finishStop_eq]
    unfold CableUnit.settleSource CableUnit.restartInterval
    cases f.source
    · exact .inr ⟨_, rfl⟩
    · exact .inl rfl
  unfold State.completeTest
  dsimp only
  refine .trans (sendIf ?_) ((ended _).trans (select _))
  split
  · refine .trans ?_ (raise _ _ _)
    exact onCable (fun _ => rfl) fun _ => rfl
  · refine .trans ?_ ((clear _ _ _).trans (clear _ _ _))
    exact onCable (fun _ => rfl) fun _ => rfl
  · exact onCable (fun _ => rfl) fun _ => rfl

theorem waitExpired (e : QueueEntry) (s : State) : KeepsForm s (s.waitExpired e) := by
  unfold State.waitExpired
  split
  · exact ofCable rfl fun sound => ⟨sound.flight, sound.queue.map fun x => by split <;> rfl⟩
  · refine .trans ?_ ((raise _ _ _).trans (select _))
    exact ofCable rfl fun sound => ⟨sound.flight, sound.queue.filter _⟩

end KeepsForm

end Sys2Proof.Machine
end

section
/-! The mode machine and the steps (R12, R20 to R28, R68, R69): entries to a mode, the decisecond step and the sequencer's
tick, each keeping every form. -/

namespace Sys2Proof.Machine

/-! ## The entry to FLASH or SUPPLY_OFF -/

/-- The contactor's timer once the line, that stood at `before`, has been set (R18). -/
def timerAfter (feedback before closed : Bool) (now : Clock) (timer : Option Clock) : Option Clock :=
  if before == feedback && !(closed == feedback) then some now
  else if !(before == feedback) && (closed == feedback) then none
  else timer

/-- The fault table once the contactor's line has been set: agreement that returns clears CONTACTOR (R18). -/
def faultsAfter (feedback before closed : Bool) (t : FaultTable) : FaultTable :=
  if !(before == feedback) && (closed == feedback) then t.clear .contactor .none else t

theorem setContactor_whole (closed : Bool) (s : State) :
    s.setContactor closed =
      { s with
        engine := { s.engine with
          contactorClosed := closed
          contactorTimer := timerAfter s.engine.feedbackClosed s.engine.contactorClosed closed s.nowMs
            s.engine.contactorTimer }
        faults := faultsAfter s.engine.feedbackClosed s.engine.contactorClosed closed s.faults } :=
  contactorChange_eq s _

theorem faultsAfter_wf {t : FaultTable} (wf : t.wf) (feedback before closed : Bool) :
    (faultsAfter feedback before closed t).wf := by
  unfold faultsAfter
  split
  · exact FaultTable.clear_wf wf _ _
  · exact wf

/-- The mode that a safe entry enters (R28). -/
def safeMode (flash : Bool) : Mode := if flash then .flash else .supplyOff

/-- An entry to FLASH or SUPPLY_OFF as R28 lays it down, before the outputs are brought up to date. -/
def State.safeMoved (flash : Bool) (s : State) : State :=
  { s with
    engine := { s.engine with
      groups := mapBank (Group.safeEntry s.engine.clock flash) s.engine.groups
      mode := safeMode flash
      startPhase := .none
      interstage := { s.engine.interstage with inFlight := false, target := noGroups }
      slot := none
      hold := HoldRecord.empty
      contactorClosed := flash
      contactorTimer := timerAfter s.engine.feedbackClosed s.engine.contactorClosed flash s.nowMs s.engine.contactorTimer
      dimOn := false }
    seq := s.seq.safeEntry
    outbox := s.outbox ++ (if s.engine.dimOn = false then [] else [.dimChange false]) ++ modeNotices (safeMode flash)
    faults := faultsAfter s.engine.feedbackClosed s.engine.contactorClosed flash s.faults
    history := s.history.take s.nowSec (.mode s.seq.safeEntry.inForce 0 (safeMode flash)) }

theorem safeEntry_eq (flash : Bool) (s : State) : s.safeEntry flash = (s.safeMoved flash).present := by
  unfold State.safeEntry State.safeMoved
  simp only [setContactor_whole, setDim_eq]
  refine congrArg State.present ?_
  simp only [State.tellMode, State.recordMode, State.record, State.send, State.onEngine, State.onSeq, State.onOutbox,
    State.onHistory, State.nowSec, State.nowMs]
  rfl

theorem setTo_state (state : GroupState) (g : Group) : (g.setTo state).state = state := by
  unfold Group.setTo
  split
  · next same => exact same
  · rfl

theorem setTo_type (state : GroupState) (g : Group) : (g.setTo state).type = g.type := by
  unfold Group.setTo
  split <;> rfl

@[simp] theorem mapBank_getElem {α β : Type} {n : Nat} (f : α → β) (v : Vector α n) (i : Fin n) :
    (mapBank f v)[i] = f v[i] := by
  simp [mapBank]

theorem safeEntry_group_type (now : Clock) (flash : Bool) (g : Group) : (g.safeEntry now flash).type = g.type := by
  unfold Group.safeEntry
  dsimp only
  rw [setTo_type]
  by_cases ends : g.state = .green ∨ g.state = .clearance
  · rw [if_pos ends]
  · rw [if_neg ends]

theorem safeEntry_group_state (now : Clock) (flash : Bool) (g : Group) :
    (g.safeEntry now flash).state = if flash then flashState g.type else .dark := by
  unfold Group.safeEntry
  dsimp only
  rw [setTo_state]

namespace KeepsForm

theorem safeMoved (flash : Bool) (s : State) : KeepsForm s (s.safeMoved flash) where
  safe safe := by
    have stopped : isRunning (safeMode flash) = false := by cases flash <;> rfl
    refine (junctionSafe_iff_of_stopped stopped).mpr ⟨safe.1, iff_of_true rfl (by cases flash <;> nofun), fun g => ?_⟩
    have group : (s.safeMoved flash).engine.groups[g] = Group.safeEntry s.engine.clock flash s.engine.groups[g] :=
      mapBank_getElem _ _ g
    rw [group, safeEntry_group_type, safeEntry_group_state]
    show shownState (safeMode flash) .none _ _ = true
    cases flash <;> simp [safeMode, shownState]
  lines _ := ⟨by cases flash <;> rfl, nofun⟩
  service _ := ⟨fun _ => ⟨rfl, rfl, rfl, rfl⟩, nofun, fun _ full => absurd rfl full⟩
  faults wf := faultsAfter_wf wf _ _ _
  history wf := History.take_wf wf _ _

theorem safeEntry (flash : Bool) (s : State) : KeepsForm s (s.safeEntry flash) := by
  rw [safeEntry_eq]
  exact (safeMoved flash s).trans (present _)

end KeepsForm

/-! ## RESTART -/

/-- The sequencer after an accepted RESTART (R23, R67). -/
def Sequencer.restarted (q : Sequencer) : Sequencer :=
  { q with
    state := .stopped
    cycleTimer := 0
    correction := q.correction.drop
    budget := 0
    budgetPort := .none
    demands := noStages
    extensionEnd := 0
    deferred := false
    latest := { set := noGroups, tag := none }
    sync := { q.sync with watch := .inactive } }

/-- The engine after an accepted RESTART, before its first phase begins (R23). -/
def Engine.restarting (e : Engine) : Engine :=
  { e with
    mode := .start
    hold := HoldRecord.empty
    slot := none
    interstage := { e.interstage with inFlight := false, target := noGroups }
    groups := mapBank (fun g => { g with withheld := false }) e.groups }

/-- The engine as START begins, in its first phase (R23). -/
def Engine.restarted (e : Engine) : Engine :=
  if e.startFlash = 0 then e.restarting.beginAllRed else e.restarting.beginFlashPhase

/-- START begins with the service records emptied; the lines are set after it (R23). -/
theorem Engine.restarted_only (e : Engine) :
    e.restarted =
      { e with
        mode := .start
        hold := HoldRecord.empty
        slot := none
        interstage := { e.interstage with inFlight := false, target := noGroups }
        startPhase := e.restarted.startPhase
        phaseTime := 0
        groups := e.restarted.groups } := by
  unfold Engine.restarted
  split <;> rfl

theorem beginAllRed_group (e : Engine) (g : GroupId) :
    e.beginAllRed.groups[g] =
      { e.groups[g].setTo (allRedState e.groups[g].type) with lastGreenEnd := e.clock } := by
  rw [Engine.beginAllRed, mapBank_getElem]

theorem beginFlashPhase_group (e : Engine) (g : GroupId) :
    e.beginFlashPhase.groups[g] = e.groups[g].setTo (flashState e.groups[g].type) := by
  rw [Engine.beginFlashPhase, mapBank_getElem]

theorem beginAllRed_shown (e : Engine) (g : GroupId) :
    e.beginAllRed.groups[g].state = allRedState e.beginAllRed.groups[g].type := by
  rw [beginAllRed_group]
  dsimp only
  rw [setTo_state, setTo_type]

/-- The groups show START's first phase as it begins (R11, R23). -/
theorem restarted_shown (e : Engine) : e.restarted.startPhase ≠ .none ∧
    ∀ g : GroupId, shownState .start e.restarted.startPhase e.restarted.groups[g].type e.restarted.groups[g].state := by
  unfold Engine.restarted
  split
  · exact ⟨nofun, fun g => beq_iff_eq.mpr (beginAllRed_shown _ g)⟩
  · refine ⟨nofun, fun g => beq_iff_eq.mpr ?_⟩
    rw [beginFlashPhase_group, setTo_state, setTo_type]

/-- An accepted RESTART as R22 and R23 lay it down, before the outputs are brought up to date. -/
def State.restartMoved (s : State) : State :=
  { s with
    engine := { s.engine.restarted with
      contactorClosed := true
      contactorTimer := timerAfter s.engine.feedbackClosed s.engine.contactorClosed true s.nowMs s.engine.contactorTimer
      dimOn := false }
    seq := s.seq.restarted
    conflicts := { s.conflicts with stagedRows := [], stagedParts := 0 }
    outbox := s.outbox ++ (if s.engine.dimOn = false then [] else [.dimChange false]) ++ modeNotices .start
    faults := faultsAfter s.engine.feedbackClosed s.engine.contactorClosed true (s.faults.clear .forced .none)
    history := s.history.take s.nowSec (.mode s.seq.inForce 0 .start) }

theorem restartJunction_eq (s : State) : s.restartJunction = s.restartMoved.present := by
  have begun : ∀ u : State, u.engine = s.engine.restarting →
      (u.onEngine fun e => if e.startFlash = 0 then e.beginAllRed else e.beginFlashPhase) =
        { u with engine := s.engine.restarted } := fun u restarting => by
    rw [State.onEngine, restarting]
    rfl
  unfold State.restartJunction
  dsimp only
  rw [begun _ rfl, setContactor_whole, setDim_eq, State.restartMoved]
  refine congrArg State.present ?_
  rw [Engine.restarted_only]
  simp only [State.tellMode, State.recordMode, State.record, State.send, State.onEngine, State.onSeq, State.onOutbox,
    State.onHistory, State.onConflicts, State.clear, State.onFaults, State.nowSec, State.nowMs]
  rfl

namespace KeepsForm

theorem restartMoved (s : State) : KeepsForm s s.restartMoved where
  safe safe := by
    have mode : s.restartMoved.engine.mode = .start := by rw [State.restartMoved, Engine.restarted_only]
    obtain ⟨phase, shown⟩ := restarted_shown s.engine
    refine (junctionSafe_iff_of_stopped (by rw [mode]; rfl)).mpr
      ⟨safe.1, iff_of_false phase (not_not_intro mode), fun g => ?_⟩
    rw [mode]
    exact shown g
  lines _ := by
    unfold State.restartMoved
    rw [Engine.restarted_only]
    exact ⟨rfl, nofun⟩
  service _ := by
    unfold State.restartMoved
    rw [Engine.restarted_only]
    exact ⟨fun _ => ⟨rfl, rfl, rfl, rfl⟩, nofun, fun _ full => absurd rfl full⟩
  faults wf := faultsAfter_wf (FaultTable.clear_wf wf _ _) _ _ _
  history wf := History.take_wf wf _ _
  clock h := by
    unfold State.restartMoved
    rw [Engine.restarted_only]
    exact h
  tests h := by
    unfold State.restartMoved
    rw [Engine.restarted_only]
    exact h

theorem restartJunction (s : State) : KeepsForm s s.restartJunction := by
  rw [restartJunction_eq]
  exact (restartMoved s).trans (present _)

end KeepsForm

/-! ## START's phases -/

theorem flashPhaseOver_iff {e : Engine} :
    e.flashPhaseOver = true ↔ e.mode = .start ∧ e.startPhase = .flashPhase ∧ e.startFlash ≤ e.phaseTime := by
  simp [Engine.flashPhaseOver, and_assoc]

theorem allRedPhaseOver_iff {e : Engine} :
    e.allRedPhaseOver = true ↔ e.mode = .start ∧ e.startPhase = .allRedPhase ∧ e.allRed ≤ e.phaseTime := by
  simp [Engine.allRedPhaseOver, and_assoc]

namespace KeepsForm

/-- A phase of START begun, with the groups it shows. -/
theorem ofPhase {s : State} (phase : StartPhase) (time : Nat) (groups : Vector Group 16)
    (safe : s.junctionSafe → State.junctionSafe
      { s with engine := { s.engine with startPhase := phase, phaseTime := time, groups := groups } }) :
    KeepsForm s { s with engine := { s.engine with startPhase := phase, phaseTime := time, groups := groups } } where
  safe := safe

/-- The all-red phase begins in START (R24). -/
theorem beginAllRed {s : State} (start : s.engine.mode = .start) : KeepsForm s (s.onEngine Engine.beginAllRed) := by
  refine ofPhase .allRedPhase 0 _ fun safe => ?_
  refine (junctionSafe_iff_of_stopped (s := s.onEngine Engine.beginAllRed) (congrArg isRunning start)).mpr
    ⟨safe.1, iff_of_false nofun (not_not_intro start), fun g => ?_⟩
  show shownState s.engine.mode .allRedPhase _ _ = true
  rw [start]
  exact beq_iff_eq.mpr (beginAllRed_shown s.engine g)

/-- The all-red phase left for RUN (R24). -/
theorem enterRun {s : State} (start : s.engine.mode = .start) (phase : s.engine.startPhase = .allRedPhase) :
    KeepsForm s (s.onEngine fun e => { e with startPhase := .none, mode := .run }) where
  safe safe := by
    obtain ⟨sound, ⟨-, shown⟩, -⟩ := safe
    have allRed : ∀ g : GroupId, s.engine.groups[g].state = allRedState s.engine.groups[g].type := fun g => by
      have := shown g
      rw [start, phase] at this
      exact beq_iff_eq.mp this
    refine (junctionSafe_iff_of_running rfl).mpr ⟨sound, rfl, fun g => ?_, fun i j meet => .inl ?_⟩
    · show runningState s.engine.groups[g].type s.engine.groups[g].state = true
      rw [allRed]
      cases s.engine.groups[g].type <;> rfl
    · have used : s.engine.groups[i].type ≠ .unused := by
        simp only [State.conflict, conflictUnder, Bool.and_eq_true, bne_iff_ne] at meet
        exact meet.1.2
      show s.engine.groups[i].state = .red
      rw [allRed]
      cases type : s.engine.groups[i].type
      case unused => exact absurd type used
      all_goals rfl
  lines lines := ⟨lines.1.trans (by rw [start]; rfl), fun _ => rfl⟩
  service sound := by
    obtain ⟨-, -, slot, hold⟩ := sound.1 (congrArg isRunning start)
    exact serviceSound_of_settled rfl (congrArg HoldRecord.pending hold) fun _ => slot

theorem beginRun {s : State} (done : s.engine.allRedPhaseOver = true) : KeepsForm s s.beginRun := by
  obtain ⟨start, phase, -⟩ := allRedPhaseOver_iff.mp done
  unfold State.beginRun
  dsimp only
  have entered : ∀ (on : Bool) (f : Sequencer → Sequencer), KeepsForm s
      ((((s.onEngine fun e => { e with startPhase := .none, mode := .run }).setDim on).onSeq
        f).tellMode.recordMode.issueRequest 1) := fun on f =>
    .trans (enterRun start phase) <| .trans (setDim fun _ => rfl) <| .trans (onSeq _ f) <| .trans (send _ _) <|
      .trans (record _ _) <| .trans (onSeq _ _) (send _ _)
  split
  · exact (entered _ _).trans (takeHold _ _ _)
  · exact entered _ _

theorem timePhases (s : State) : KeepsForm s s.timePhases := by
  unfold State.timePhases
  split
  · next start =>
    have timed : KeepsForm s (s.onEngine fun e => { e with phaseTime := e.phaseTime + 1 }) := {}
    dsimp only
    split
    · exact timed.trans (beginAllRed start)
    · split
      · next done => exact timed.trans (beginRun done)
      · exact timed
  · exact refl s

/-! ## The decisecond step -/

/-- The clock and the count of ms moved together. -/
theorem ofClock {s : State} {clock : Clock} {uptime : Nat} {groups : Vector Group 16} {store : Store}
    (sound : s.clockSound → clock = BitVec.ofNat 32 (uptime / 100))
    (types : ∀ g : GroupId, groups[g].type = s.engine.groups[g].type)
    (states : ∀ g : GroupId, groups[g].state = s.engine.groups[g].state) :
    KeepsForm s
      { s with engine := { s.engine with clock := clock, groups := groups }, uptimeMs := uptime, store := store } where
  clock h := sound h
  safe := junctionSafe_of_same (s := s) rfl rfl types states (.inl rfl)

theorem advanceClock (s : State) : KeepsForm s s.advanceClock :=
  ofClock (s := s)
    (fun sound => by
      rw [Nat.mul_div_cancel _ (by omega), BitVec.ofNat_add]
      exact congrArg (· + 1#32) sound)
    (fun g => (congrArg Group.type (mapBank_getElem _ _ g)).trans rfl)
    (fun g => (congrArg Group.state (mapBank_getElem _ _ g)).trans rfl)

/-- New start tests are looked at by no form. -/
theorem ofStartTests {s : State} (tests : Vector StartTest 16) :
    KeepsForm s { s with engine := { s.engine with startTests := tests } } := {}

theorem takeStarts (s : State) : KeepsForm s s.takeStarts := by
  have starts : ∀ (groups : List GroupId) (t : State), isRunning t.engine.mode = true →
      KeepsForm t (groups.foldl State.startGroup t) := fun groups => by
    induction groups with
    | nil => exact fun t _ => refl t
    | cons j rest ih => exact fun t running => (startGroup running j).trans (ih _ running)
  unfold State.takeStarts
  split
  · next running => exact starts allGroups s running
  · exact ofStartTests (s := s) _

theorem decisecond (s : State) : KeepsForm s s.decisecond :=
  ((advanceClock s).trans <| (takeEndings _).trans <| (takeStarts _).trans <| (testCompletion _).trans <|
    (timePhases _).trans <| (present _).trans (send _ _))

theorem timedExit (j : GroupId) (s : State) : KeepsForm s (s.timedExit j) := by
  unfold State.timedExit
  split
  · next running =>
    refine .trans (ofGroups (s := s) rfl fun safe => ?_) (present _)
    refine junctionSafe_of_keepsRed (s := s) running rfl rfl rfl (fun g => ?_) safe
    show Group.KeepsRed _ (put _ _ _)[g]
    rw [put_getElem]
    split
    · next same => rw [same]; exact .timedExit _ _
    · exact .refl _
  · exact refl s

/-! ## The sequencer's tick -/

theorem issueRequest (k : Nat) (s : State) : KeepsForm s (s.issueRequest k) := (onSeq s _).trans (send _ _)

theorem changePlan (p : PlanId) {s : State} (running : isRunning s.engine.mode = true) : KeepsForm s (s.changePlan p) := by
  unfold State.changePlan
  dsimp only
  refine .trans (.trans (onSeq s (Sequencer.takePlan p s.engine.clock)) <|
    .trans (setDim (on := (Sequencer.takePlan p s.engine.clock s.seq).plan.dim) fun _ => running) ?_) (record _ _)
  split
  · exact onSeq _ _
  · exact issueRequest _ _

theorem wrap {s : State} (running : s.seq.wrapped = true → isRunning s.engine.mode = true) : KeepsForm s s.wrap := by
  unfold State.wrap
  split
  · next wrapped =>
    dsimp only
    split
    · exact (onSeq s _).trans (changePlan _ (running wrapped))
    · exact onSeq s _
  · exact refl s

theorem chooseNext (ended : Nat) (stages : List Nat) (s : State) : KeepsForm s (s.chooseNext ended stages) := by
  induction stages generalizing s with
  | nil => exact onSeq s _
  | cons k rest ih =>
    unfold State.chooseNext
    split
    · exact (record s _).trans (ih _)
    · exact issueRequest k s

theorem testEnding (s : State) : KeepsForm s s.testEnding := by
  unfold State.testEnding
  split
  · exact chooseNext _ _ s
  · exact refl s

theorem expireWatch (s : State) : KeepsForm s s.expireWatch := (onSeq s _).trans (raise _ _ _)

end KeepsForm

/-- Outside RUN and HELD the cycle timer is 0, and no plan's cycle is then at its end (R68). -/
theorem not_wrapped_of_stopped {mode : Mode} (stopped : isRunning mode = false) (q : Sequencer) :
    ((q.stepTimer mode).stepStage mode).wrapped = false := by
  have zero : ((q.stepTimer mode).stepStage mode).cycleTimer = 0 := by
    cases mode
    case run => cases stopped
    case held => cases stopped
    all_goals rfl
  rw [Sequencer.wrapped, zero]
  simp only [Nat.le_zero, Bool.and_eq_false_iff, decide_eq_false_iff_not]
  omega

namespace KeepsForm

theorem tick (s : State) : KeepsForm s s.tick := by
  unfold State.tick
  dsimp only
  refine .trans ?_ (present _)
  have timed : KeepsForm s ((s.onSeq (Sequencer.stepTimer s.engine.mode)).onSeq (Sequencer.stepStage s.engine.mode)) :=
    (onSeq s _).trans (onSeq _ _)
  have ended := timed.trans <| (wrap fun wrapped => by
      by_contra stopped
      exact absurd wrapped (Bool.eq_false_iff.mp (not_wrapped_of_stopped (Bool.eq_false_iff.mpr stopped) s.seq))).trans <| (onSeq _ (Sequencer.testDeferral s.seq.cycleTimer)).trans (testEnding _)
  split
  · exact ended.trans (expireWatch _)
  · exact ended

theorem pulse (s : State) : KeepsForm s s.pulse := by
  unfold State.pulse
  dsimp only
  split
  · exact (clear s _ _).trans ((onSeq _ _).trans (onSeq _ _))
  · exact (clear s _ _).trans (onSeq _ _)

end KeepsForm

/-! ## STEP -/

/-- A STEP that is taken, in HELD with no interstage in flight (R35). -/
theorem takeStep_ok {index : Option Nat} {s t : State} (taken : s.takeStep index = .ok t) :
    s.engine.mode = .held ∧ s.engine.interstage.inFlight = false ∧ ∃ k, t = State.present
      (State.takeRequest ((s.onEngine fun e => { e with slot := none }).onSeq (Sequencer.issue k)).seq.request
        ((s.onEngine fun e => { e with slot := none }).onSeq (Sequencer.issue k))) := by
  unfold State.takeStep at taken
  split at taken
  · cases taken
  · next held =>
    split at taken
    · cases taken
    · next flight =>
      split at taken
      · cases taken
      · exact ⟨by simpa using held, by simpa using flight, _, (Except.ok.inj taken).symm⟩

namespace KeepsForm

theorem takeStep {index : Option Nat} {s t : State} (taken : s.takeStep index = .ok t) : KeepsForm s t := by
  obtain ⟨-, -, k, rfl⟩ := takeStep_ok taken
  exact (emptySlot s).trans ((onSeq _ _).trans ((takeRequest _ _).trans (present _)))

end KeepsForm

end Sys2Proof.Machine
end

section
/-! The lamp side (R98 to R102, R113 to R121): what a frame, a slot and the requests on lamps keep. No frame changes a
fitted count, so the cable tests stay as sound as they were. -/

namespace Sys2Proof.Machine

/-! ## The work of one aspect leaves the fitted count -/

theorem setActive_fitted (l : Lamp) (dimOn : Bool) (reference : Nat) : (l.setActive dimOn reference).fitted = l.fitted := by
  cases dimOn <;> rfl

theorem count_fitted (k filter : Nat) (l : Lamp) : (l.count k filter).fitted = l.fitted := by
  unfold Lamp.count
  dsimp only
  split <;> split <;> rfl

theorem learnStep_fitted (dimOn : Bool) (net : Nat) (l : Lamp) : (l.learnStep dimOn net).fitted = l.fitted :=
  setActive_fitted _ _ _

theorem takeLit_fitted (dimOn : Bool) (filter raw : Nat) (l : Lamp) :
    (l.takeLit dimOn filter raw).lamp.fitted = l.fitted := by
  unfold Lamp.takeLit
  dsimp only
  split
  · rfl
  · dsimp only
    split
    · rw [learnStep_fitted, count_fitted]
    · rw [count_fitted]

theorem moveOverload_fitted (cls : ReadingClass) (evidence : Bool) (l : Lamp) :
    (l.moveOverload cls evidence).fitted = l.fitted := by
  unfold Lamp.moveOverload
  split
  · rfl
  · split <;> rfl

theorem moveUnexpected_fitted (cls : ReadingClass) (l : Lamp) : (l.moveUnexpected cls).fitted = l.fitted := by
  cases cls <;> rfl

theorem takeClass_fitted (letter : Letter) (dimOn : Bool) (filter : Nat) (cls : ReadingClass) (raw : Nat) (l : Lamp) :
    (l.takeClass letter dimOn filter cls raw).lamp.fitted = l.fitted := by
  unfold Lamp.takeClass
  dsimp only
  rw [moveOverload_fitted]
  cases cls
  case lit => rw [takeLit_fitted, moveUnexpected_fitted]
  case senseFault =>
    dsimp only
    split
    · rw [count_fitted, moveUnexpected_fitted]
    · rw [moveUnexpected_fitted]
  all_goals exact moveUnexpected_fitted _ l

theorem work_fitted (letter : Letter) (dimOn : Bool) (filter : Nat) (cls : ReadingClass) (raw : Nat) (l : Lamp) :
    (l.work letter dimOn filter cls raw).lamp.fitted = l.fitted := by
  unfold Lamp.work
  split
  · exact setActive_fitted _ _ _
  · exact takeClass_fitted _ _ _ _ _ _
  · exact takeClass_fitted _ _ _ _ _ _
  · rfl
  · rfl
  · exact takeClass_fitted _ _ _ _ _ _

theorem setLast_fitted (cls : ReadingClass) (r : Reading) (net : Nat) (l : Lamp) :
    (l.setLast cls r net).fitted = l.fitted := by
  unfold Lamp.setLast
  split <;> rfl

theorem aspectWork_fitted (s : State) (c : CoreId) : (s.aspectWork c).lamp.fitted = s.fitted c := by
  unfold State.aspectWork
  dsimp only
  rw [setLast_fitted]
  exact work_fitted _ _ _ _ _ _

/-! ## Scanning -/

theorem nextSlot_le (mode : ScanMode) (slot : Nat) : nextSlot mode slot ≤ slotsOf mode := by
  unfold nextSlot
  split
  · cases mode <;> decide
  · omega

theorem endSlot_scanState (readings : Vector Reading 16) (u : LampUnit) : (u.endSlot readings).scanState = u.scanState := by
  rw [endSlot_only]

theorem endSlot_scanMode (readings : Vector Reading 16) (u : LampUnit) : (u.endSlot readings).scanMode = u.scanMode := by
  rw [endSlot_only]

theorem emptyFrame_scanState (u : LampUnit) : u.emptyFrame.scanState = u.scanState := by
  simp only [LampUnit.emptyFrame]

theorem emptyFrame_scanMode (u : LampUnit) : u.emptyFrame.scanMode = u.scanMode := by
  simp only [LampUnit.emptyFrame]

/-- A frame completion leaves the scan mode, its state, the slot and its row. -/
theorem completeFrame_scan (s : State) :
    s.completeFrame.lamps.scanMode = s.lamps.scanMode ∧ s.completeFrame.lamps.scanState = s.lamps.scanState := by
  unfold State.completeFrame
  dsimp only
  rw [actAll_only, State.onLamps, State.onLamps]
  dsimp only [State.send, State.onOutbox]
  rw [actAll_only]
  dsimp only
  rw [actAll_only]
  exact ⟨rfl, rfl⟩

theorem change_getElem {α : Type} {n : Nat} (v : Vector α n) (i j : Fin n) (f : α → α) :
    (change v i f)[j] = if j = i then f v[j] else v[j] := by
  rw [change, put_getElem]
  split
  · next same => rw [same]
  · rfl

namespace KeepsForm

/-- A unit whose scan is in form, under the same fitted counts. -/
theorem ofLamps {s : State} {scanState : ScanState} {scanMode : ScanMode} {filter threshold slotIndex : Nat}
    {rowSelect : Letter} {lastZeroCross : Clock} {sequence : BitVec 16} {dimChanged : Bool} {toldMode : Mode}
    {scan : Vector ScanAspect 64} {lamps : Vector Lamp 64} {snapshot : Snapshot}
    (sound : s.lamps.scanSound → slotIndex ≤ slotsOf scanMode ∧ (slotIndex ≠ 0 → rowSelect = rowOf slotIndex) ∧
      (scanState = .suspended → slotIndex = 0 ∧ rowSelect = .R))
    (fitted : ∀ c : CoreId, lamps[c].fitted = s.fitted c) :
    KeepsForm s
      { s with
        lamps := { scanState := scanState, scanMode := scanMode, filter := filter, threshold := threshold,
                   slotIndex := slotIndex, rowSelect := rowSelect, lastZeroCross := lastZeroCross,
                   frameSequence := sequence, dimChanged := dimChanged, toldMode := toldMode, scan := scan,
                   lamps := lamps, snapshot := snapshot } } where
  scan := sound
  tests := fun ⟨flight, length, once, there⟩ => by
    refine ⟨fun f tested => ?_, length, once, fun e mem => (there e mem).trans_eq (fitted e.core).symm⟩
    show (decide (0 < lamps[f.core].fitted) && _) = true
    rw [fitted]
    exact flight f tested

/-- A change of the unit that leaves its lamp records, its slot and its scan as they are. -/
theorem ofScan {s : State} {filter threshold : Nat} {lastZeroCross : Clock} {sequence : BitVec 16} {dimChanged : Bool}
    {toldMode : Mode} {scan : Vector ScanAspect 64} {snapshot : Snapshot} :
    KeepsForm s
      { s with
        lamps := { s.lamps with
          filter := filter
          threshold := threshold
          lastZeroCross := lastZeroCross
          frameSequence := sequence
          dimChanged := dimChanged
          toldMode := toldMode
          scan := scan
          snapshot := snapshot } } :=
  ofLamps (fun sound => sound) fun _ => rfl

theorem endSlot (readings : Vector Reading 16) (s : State) : KeepsForm s (s.onLamps (LampUnit.endSlot readings)) := by
  rw [State.onLamps, endSlot_only]
  exact ofScan

theorem emptyFrame (s : State) : KeepsForm s (s.onLamps LampUnit.emptyFrame) := ofScan

theorem startSlot {slot : Nat} {s : State} (there : slot ≤ slotsOf s.lamps.scanMode)
    (scanning : s.lamps.scanState = .scanning) : KeepsForm s (s.startSlot slot) :=
  ofLamps (fun _ => ⟨there, fun _ => rfl, fun suspended => by cases scanning.symm.trans suspended⟩) fun _ => rfl

theorem completeFrame (s : State) : KeepsForm s s.completeFrame := by
  unfold State.completeFrame
  dsimp only
  have works : KeepsForm s (s.onLamps (LampUnit.afterFrame (Vector.ofFn s.aspectWork))) := by
    refine ofLamps (fun sound => sound) fun c => ?_
    rw [mapBank_getElem]
    simpa using aspectWork_fitted s c
  exact works.trans <| (actAll _ _).trans <| (actAll _ _).trans <| (actAll _ _).trans <| (send _ _).trans <|
    .trans ofScan ofScan

/-- The slot after a slot of the scan mode starts. -/
theorem startNextSlot {s : State} {mode : ScanMode} (same : s.lamps.scanMode = mode)
    (scanning : s.lamps.scanState = .scanning) (slot : Nat) : KeepsForm s (s.startSlot (nextSlot mode slot)) :=
  startSlot (same ▸ nextSlot_le _ slot) scanning

theorem zeroCrossEdge (readings : Vector Reading 16) (s : State) : KeepsForm s (s.zeroCrossEdge readings) := by
  unfold State.zeroCrossEdge
  dsimp only
  split
  · exact refl s
  · cases state : s.lamps.scanState with
    | suspended =>
      have begun : KeepsForm s
          { s with lamps := { s.lamps with lastZeroCross := s.nowMs, scanState := .scanning } } :=
        ofLamps (fun ⟨slots, row, _⟩ => ⟨slots, row, nofun⟩) fun _ => rfl
      refine begun.trans (startSlot ?_ rfl)
      show 1 ≤ slotsOf s.lamps.scanMode
      cases s.lamps.scanMode <;> decide
    | scanning =>
      have mode := endSlot_scanMode readings { s.lamps with lastZeroCross := s.nowMs }
      have scanning := (endSlot_scanState readings { s.lamps with lastZeroCross := s.nowMs }).trans state
      have timed : KeepsForm s (s.onLamps fun u => { u with lastZeroCross := s.nowMs }) := ofScan
      have ended := timed.trans (endSlot readings _)
      dsimp only
      split
      · obtain ⟨mode', scanning'⟩ := completeFrame_scan
          ((s.onLamps fun u => { u with lastZeroCross := s.nowMs }).onLamps (LampUnit.endSlot readings))
        refine ended.trans ((completeFrame _).trans ((emptyFrame _).trans (startNextSlot ?_ ?_ _)))
        · exact (emptyFrame_scanMode _).trans (mode'.trans mode)
        · exact (emptyFrame_scanState _).trans (scanning'.trans scanning)
      · exact ended.trans (startNextSlot mode scanning _)

theorem suspend (s : State) : KeepsForm s (s.onLamps LampUnit.suspend) := by
  refine ofLamps (fun _ => ⟨Nat.zero_le _, fun h => absurd rfl h, fun _ => ⟨rfl, rfl⟩⟩) fun c => ?_
  simp only [Fin.getElem_fin, Vector.getElem_ofFn]
  split <;> rfl

theorem writeScan (mode : ScanMode) (filter threshold : Nat) (s : State) :
    KeepsForm s (s.onLamps (LampUnit.writeScan mode filter threshold)) := by
  unfold State.onLamps LampUnit.writeScan
  dsimp only
  split
  · exact ofScan
  · refine ofLamps (fun sound => ⟨Nat.zero_le _, fun h => absurd rfl h, fun suspended => ⟨rfl, ?_⟩⟩) fun c => ?_
    · exact (sound.2.2 suspended).2
    · simp only [LampUnit.changeMode, LampUnit.emptyFrame, Fin.getElem_fin, Vector.getElem_ofFn]
      split <;> rfl

theorem beginLearn (c : CoreId) (s : State) : KeepsForm s (s.onLamps (LampUnit.beginLearn c)) := by
  refine ofLamps (fun sound => sound) fun d => ?_
  rw [change_getElem]
  split <;> rfl

end KeepsForm

end Sys2Proof.Machine
end

section
/-! What each step keeps, whole: the forms of `KeepsForm` together with the outputs being current (R4 to R6), the writes
that change a table or a fitted count, and the states at reset and after a load (R174). -/

namespace Sys2Proof.Machine

/-! ## Outputs -/

theorem present_outputsSound (s : State) : s.present.outputsSound := fun c => by
  rw [present_wanted, present_engine, wantedOutputs_getElem]

/-- The wait conditions follow from the plan in force, the latches and the entries (R6). -/
theorem waitWanted_of_same {s t : State} (plan : t.seq.plan = s.seq.plan) (inForce : t.seq.inForce = s.seq.inForce)
    (demands : t.seq.demands = s.seq.demands) (substs : t.seq.substs = s.seq.substs) (g : GroupId) :
    t.waitWanted g = s.waitWanted g := by
  have set : ∀ k, (t.seq.form k).set = (s.seq.form k).set := fun k => by
    have entry : t.seq.substFor k = s.seq.substFor k := by
      unfold Sequencer.substFor SubstEntry.covers
      rw [plan, inForce, substs]
    unfold Sequencer.form
    rw [entry, plan]
    split <;> rfl
  have latched : ∀ k, t.seq.latched k = s.seq.latched k := fun k => by
    unfold Sequencer.latched
    rw [demands]
  unfold State.waitWanted
  simp only [plan, set, latched]

/-- A move after which the queue of commands stands, every form that held still holds, and outputs that were current still
are. -/
structure Settled (s t : State) : Prop extends KeepsForm s t where
  outputs : s.outputsSound → t.outputsSound := by exact fun h => h

namespace Settled

theorem refl (s : State) : Settled s s := {}

theorem trans {s t u : State} (first : Settled s t) (second : Settled t u) : Settled s u where
  toKeepsForm := first.toKeepsForm.trans second.toKeepsForm
  outputs := second.outputs ∘ first.outputs

/-- An event that ends by bringing the outputs up to date (R5). -/
theorem ofPresent {s t : State} (kept : KeepsForm s t) : Settled s t.present where
  toKeepsForm := kept.trans (.present t)
  outputs _ := present_outputsSound t

/-- A move that leaves the engine and the sequencer alone. -/
theorem ofElsewhere {s t : State} (kept : KeepsForm s t) (engine : t.engine = s.engine) (seq : t.seq = s.seq) :
    Settled s t where
  toKeepsForm := kept
  outputs sound c := by
    have wanted : t.wantedCommand c = s.wantedCommand c := by
      unfold State.wantedCommand State.waitWanted
      rw [engine, seq]
    rw [wanted, engine]
    exact sound c

/-- A move that leaves the groups, the clock, the outputs and all that the wait conditions look at. -/
theorem ofShown {s t : State} (kept : KeepsForm s t) (groups : t.engine.groups = s.engine.groups)
    (clock : t.engine.clock = s.engine.clock) (aspects : t.engine.aspects = s.engine.aspects)
    (plan : t.seq.plan = s.seq.plan) (inForce : t.seq.inForce = s.seq.inForce)
    (demands : t.seq.demands = s.seq.demands) (substs : t.seq.substs = s.seq.substs) : Settled s t where
  toKeepsForm := kept
  outputs sound c := by
    have wanted : t.wantedCommand c = s.wantedCommand c := by
      unfold State.wantedCommand
      rw [groups, waitWanted_of_same plan inForce demands substs]
    rw [wanted, aspects, clock]
    exact sound c

section
variable (s : State)

theorem send (messages) : Settled s (s.send messages) := ofElsewhere (.send s _) rfl rfl
theorem taking (message) : Settled s (s.taking message) := ofElsewhere (.taking s _) rfl rfl
theorem onQuals (f) : Settled s (s.onQuals f) := ofElsewhere (.onQuals s _) rfl rfl
theorem onPort (p f) : Settled s (s.onPort p f) := ofElsewhere (.onPort s _ _) rfl rfl
theorem respond (p code a) : Settled s (s.respond p code a) := ofElsewhere (.respond s _ _ _) rfl rfl
theorem onStore (f) : Settled s (s.onStore f) := ofElsewhere (.onStore s _) rfl rfl
theorem raise (k x) : Settled s (s.raise k x) := ofElsewhere (.raise s _ _) rfl rfl
theorem clear (k x) : Settled s (s.clear k x) := ofElsewhere (.clear s _ _) rfl rfl
theorem record (item) : Settled s (s.record item) := ofElsewhere (.record s _) rfl rfl

end

/-- A selection touches neither the outputs nor what they follow from (R137). -/
theorem select (s : State) : Settled s s.select := ofElsewhere (.select s) rfl rfl

theorem settleUnit (s : State) : Settled s s.settleUnit := ofElsewhere (.settleUnit s) rfl rfl

end Settled

/-! ## A changed fitted count -/

theorem fittedChanged_only (c : CoreId) (s : State) :
    s.fittedChanged c = { s with cable := (s.fittedChanged c).cable } := by
  unfold State.fittedChanged
  dsimp only
  by_cases none : s.fitted c = 0
  · rw [if_pos none]
    cases s.cable.flight with
    | none => rfl
    | some f =>
      dsimp only
      split
      · rw [abortFlight_eq]; rfl
      · rfl
  · rw [if_neg none]
    rfl

/-- A selection keeps a sound unit sound (R137). -/
theorem select_sound {s : State} {u : CableUnit} (sound : u.Sound s.eligible s.fitted) :
    (State.select { s with cable := u }).cable.Sound s.eligible s.fitted :=
  selectWith_sound (s := { s with cable := u }) sound fun _ => id

/-- After a change of a core's fitted count the unit is sound: a count of 0 has taken the core out of test and out of the
queue (R136). -/
theorem fittedChanged_sound {c : CoreId} {s : State}
    (flight : ∀ f, s.cable.flight = some f → (f.core = c → s.fitted c ≠ 0) → s.eligible f.core = true)
    (room : s.cable.queue.length ≤ 8) (distinct : (s.cable.queue.map fun e => e.core).Nodup)
    (fitted : ∀ e ∈ s.cable.queue, (e.core = c → s.fitted c ≠ 0) → 0 < s.fitted e.core) :
    (s.fittedChanged c).cable.Sound s.eligible s.fitted := by
  unfold State.fittedChanged
  dsimp only
  by_cases none : s.fitted c = 0
  · rw [if_pos none]
    have form : QueueForm s.fitted (s.cable.queue.filter fun e => !(e.core == c)) := by
      refine ⟨(List.length_filter_le _ _).trans room, ?_, fun e mem => ?_⟩
      · exact (List.Sublist.map _ List.filter_sublist).nodup distinct
      · obtain ⟨there, other⟩ := List.mem_filter.mp mem
        exact fitted e there fun same => absurd same (by simpa using other)
    cases flying : s.cable.flight with
    | none => exact select_sound ⟨fun f started => (by cases flying.symm.trans started), form⟩
    | some f =>
      dsimp only
      split
      · next same =>
        rw [abortFlight_eq]
        refine select_sound ⟨nofun, ?_⟩
        have kept : (f.abortedQueue .removed s.nowMs s.cable.queue).filter (fun e => !(e.core == c)) =
            s.cable.queue.filter fun e => !(e.core == c) := by
          unfold Flight.abortedQueue
          cases f.source with
          | queue => simp only [List.filter_filter, same, Bool.and_self]
          | cyclic => rfl
        show QueueForm s.fitted ((f.abortedQueue .removed s.nowMs s.cable.queue).filter _)
        rw [kept]
        exact form
      · next other =>
        refine select_sound ⟨fun f' started => ?_, form⟩
        obtain rfl : f = f' := Option.some.inj (flying.symm.trans started)
        exact flight f flying fun same => absurd same other
  · rw [if_neg none]
    exact selectWith_sound ⟨fun f flying => flight f flying fun _ => none, room, distinct, fun e mem =>
      fitted e mem fun _ => none⟩ fun _ => id

end Sys2Proof.Machine
end

section
/-! The writes that change a table, a type or a fitted count, and the states at reset and after a load (R13, R43, R121,
R174). -/

namespace Sys2Proof.Machine

/-! ## WRITE_LAMP -/

/-- An accepted WRITE_LAMP as R99 and R121 lay it down, before the Cable Test Unit is told of a changed count. -/
def State.lampWritten (c : CoreId) (k : LampConfig) (s : State) : State :=
  { s with
    lamps := { s.lamps with
      scan := (s.lamps.forget c).scan
      lamps := change s.lamps.lamps c (Lamp.rewrite k) }
    faults :=
      ((s.faults.clear .lampUncertain (.aspect c)).clear .lampOverload (.aspect c)).clear .unexpectedCurrent (.aspect c) }

theorem writeLamp_eq (c : CoreId) (k : LampConfig) (s : State) :
    s.writeLamp c k = if k.fitted = s.fitted c then s.lampWritten c k else (s.lampWritten c k).fittedChanged c := rfl

theorem lampWritten_fitted (c : CoreId) (k : LampConfig) (s : State) (d : CoreId) :
    (s.lampWritten c k).fitted d = if d = c then k.fitted else s.fitted d := by
  show (change s.lamps.lamps c (Lamp.rewrite k))[d].fitted = _
  rw [change_getElem]
  split <;> rfl

theorem lampWritten_eligible {c : CoreId} {k : LampConfig} {s : State} {d : CoreId} (eligible : s.eligible d = true)
    (fitted : d = c → k.fitted ≠ 0) : (s.lampWritten c k).eligible d = true := by
  have off : s.command d == .off := (Bool.and_eq_true_iff.mp eligible).2
  have there : 0 < s.fitted d := of_decide_eq_true (Bool.and_eq_true_iff.mp eligible).1
  refine Bool.and_eq_true_iff.mpr ⟨decide_eq_true ?_, off⟩
  rw [lampWritten_fitted]
  split
  · next same => exact Nat.pos_of_ne_zero (fitted same)
  · exact there

namespace KeepsForm

theorem lampsWritten {s : State} {scan : Vector ScanAspect 64} {lamps : Vector Lamp 64} {faults : FaultTable}
    {cable : CableUnit} (wf : s.faults.wf → faults.wf)
    (tests : s.testsSound → State.testsSound
      { s with lamps := { s.lamps with scan := scan, lamps := lamps }, faults := faults, cable := cable }) :
    KeepsForm s
      { s with lamps := { s.lamps with scan := scan, lamps := lamps }, faults := faults, cable := cable } where
  faults := wf
  tests := tests

theorem writeLamp (c : CoreId) (k : LampConfig) (s : State) : KeepsForm s (s.writeLamp c k) := by
  have wf : s.faults.wf → (s.lampWritten c k).faults.wf := fun wf =>
    FaultTable.clear_wf (FaultTable.clear_wf (FaultTable.clear_wf wf _ _) _ _) _ _
  rw [writeLamp_eq]
  split
  · next same =>
    refine lampsWritten wf fun ⟨flight, length, once, there⟩ => ?_
    have fitted : ∀ d, (s.lampWritten c k).fitted d = s.fitted d := fun d => by
      rw [lampWritten_fitted]
      split
      · next eq => rw [eq, same]
      · rfl
    refine ⟨fun f tested => lampWritten_eligible (c := c) (k := k) (flight f tested) fun eq => ?_, length, once,
      fun e mem => (there e mem).trans_eq (fitted e.core).symm⟩
    rw [same, ← eq]
    exact (of_decide_eq_true (Bool.and_eq_true_iff.mp (flight f tested)).1).ne'
  · rw [fittedChanged_only]
    refine lampsWritten wf fun ⟨flight, length, once, there⟩ => ?_
    have itself : (s.lampWritten c k).fitted c = k.fitted := by rw [lampWritten_fitted, if_pos rfl]
    have sound := fittedChanged_sound (c := c) (s := s.lampWritten c k)
      (fun f tested apart => lampWritten_eligible (flight f tested) fun eq => itself ▸ apart eq) length once
      fun e mem apart => by
        rw [lampWritten_fitted]
        split
        · next eq => exact Nat.pos_of_ne_zero (itself ▸ apart eq)
        · exact there e mem
    exact ⟨sound.flight, queueSound_iff.mpr sound.queue⟩

/-! ## WRITE_GROUP -/

/-- A group's record written outside RUN and HELD, when it shows what the mode lays down if the old one did. -/
theorem putGroup {s : State} {g : GroupId} {r : Group} (stopped : isRunning s.engine.mode = false)
    (shown : shownState s.engine.mode s.engine.startPhase s.engine.groups[g].type s.engine.groups[g].state = true →
      shownState s.engine.mode s.engine.startPhase r.type r.state = true) :
    KeepsForm s (s.onEngine fun e => { e with groups := put e.groups g r }) := by
  refine ofGroups (s := s) rfl fun safe => ?_
  obtain ⟨matrix, phase, states⟩ := (junctionSafe_iff_of_stopped stopped).mp safe
  refine (junctionSafe_iff_of_stopped (s := s.onEngine fun e => { e with groups := put e.groups g r }) stopped).mpr
    ⟨matrix, phase, fun h => ?_⟩
  show shownState s.engine.mode s.engine.startPhase (put s.engine.groups g r)[h].type
    (put s.engine.groups g r)[h].state = true
  rw [put_getElem]
  split
  · next same => exact shown (same ▸ states h)
  · exact states h

end KeepsForm

theorem isRunning_of_stopped {mode : Mode} (stopped : isStopped mode = true) : isRunning mode = false := by
  revert stopped
  cases mode <;> decide

theorem retype_type (mode : Mode) (r : Group) : (r.retype mode).type = r.type := by
  unfold Group.retype
  dsimp only
  split
  · rw [setTo_type]
  · rfl

theorem retype_state (mode : Mode) (r : Group) :
    (r.retype mode).state = if mode = .flash then flashState r.type else r.state := by
  unfold Group.retype
  dsimp only
  split
  · rw [setTo_state]
  · rfl

/-- A record whose type changes shows what a stopped mode lays down (R13, R21). -/
theorem retype_shown {mode : Mode} {phase : StartPhase} {type : GroupType} {r : Group} (stopped : isStopped mode = true)
    (shown : shownState mode phase type r.state = true) :
    shownState mode phase (r.retype mode).type (r.retype mode).state = true := by
  rw [retype_type, retype_state]
  cases mode
  case flash => exact beq_self_eq_true _
  case dark => exact shown
  case supplyOff => exact shown
  all_goals cases stopped

namespace KeepsForm

theorem writeGroup {s : State} {g : GroupId} {r : Group} (stopped : isStopped s.engine.mode = true)
    (state : r.state = s.engine.groups[g].state) : KeepsForm s (s.writeGroup g r) := by
  have still := isRunning_of_stopped stopped
  unfold State.writeGroup
  dsimp only
  split
  · next same =>
    refine putGroup still fun shown => ?_
    rw [state, same]
    exact shown
  · refine .trans (putGroup (r := r.retype s.engine.mode) still fun shown => retype_shown stopped (state ▸ shown)) ?_
    refine .trans ?_ ((clear _ _ _).trans (revalidate _))
    refine ofLamps (fun sound => sound) fun c => ?_
    rw [change_getElem]
    split <;> rfl

/-! ## WRITE_CONFLICTS and the engine's lines -/

theorem putMatrix {s : State} {matrix : Vector GroupSet 16} (stopped : isRunning s.engine.mode = false)
    (sound : matrixSound matrix = true) : KeepsForm s (s.onConflicts fun c => { c with matrix := matrix }) where
  safe safe := by
    obtain ⟨-, phase, states⟩ := (junctionSafe_iff_of_stopped stopped).mp safe
    exact (junctionSafe_iff_of_stopped (s := s.onConflicts fun c => { c with matrix := matrix }) stopped).mpr
      ⟨sound, phase, states⟩

/-- A change of the conflict table that leaves the matrix. -/
theorem onConflicts {s : State} {f : ConflictTable → ConflictTable} (matrix : (f s.conflicts).matrix = s.conflicts.matrix) :
    KeepsForm s (s.onConflicts f) where
  safe safe := junctionSafe_of_same (s := s) matrix rfl (fun _ => rfl) (fun _ => rfl) (.inl rfl) safe

end KeepsForm

namespace Settled

/-- Fields of the engine that no form looks at. -/
theorem onPins {s : State} {startFlash allRed : Nat} {feedback : Bool} {timer : Option Clock} {hand button : PanelInput}
    {faults : FaultTable} (wf : s.faults.wf → faults.wf) :
    Settled s
      { s with
        engine := { s.engine with
          startFlash := startFlash
          allRed := allRed
          feedbackClosed := feedback
          contactorTimer := timer
          hand := hand
          stepButton := button }
        faults := faults } :=
  .ofShown { faults := wf } rfl rfl rfl rfl rfl rfl rfl

theorem feedbackChange (closed : Bool) (s : State) :
    Settled s (s.contactorChange fun e => { e with feedbackClosed := closed }) := by
  rw [contactorChange_eq]
  refine onPins fun wf => ?_
  split
  · exact FaultTable.clear_wf wf _ _
  · exact wf

theorem contactorExpiry (s : State) : Settled s s.contactorExpiry := by
  unfold State.contactorExpiry
  split
  · exact .trans (onPins id) (raise _ _ _)
  · exact refl s

theorem onPanel (input : PanelSwitch) (f : PanelInput → PanelInput) (s : State) :
    Settled s (s.onEngine (Engine.onPanel input f)) := by
  cases input <;> exact onPins id

/-- A change of the sequencer that leaves all the wait conditions look at. -/
theorem onSeq {s : State} {f : Sequencer → Sequencer} (plan : (f s.seq).plan = s.seq.plan)
    (inForce : (f s.seq).inForce = s.seq.inForce) (demands : (f s.seq).demands = s.seq.demands)
    (substs : (f s.seq).substs = s.seq.substs) : Settled s (s.onSeq f) :=
  .ofShown (.onSeq s f) rfl rfl rfl plan inForce demands substs

end Settled

/-! ## Reset and load -/

/-- Every form that the invariants of a step speak of. -/
structure State.InForm (s : State) : Prop where
  clock : s.clockSound
  safe : s.junctionSafe
  lines : s.linesSound
  service : s.engine.serviceSound
  scan : s.lamps.scanSound
  faults : s.faults.wf
  history : s.history.wf
  tests : s.testsSound
  outputs : s.outputsSound

theorem Settled.ofInForm {s t : State} (pending : t.pending = s.pending) (form : t.InForm) : Settled s t where
  pending := pending
  clock _ := form.clock
  safe _ := form.safe
  lines _ := form.lines
  service _ := form.service
  scan _ := form.scan
  faults _ := form.faults
  history _ := form.history
  tests _ := form.tests
  outputs _ := form.outputs

theorem commandFor_dark (type : GroupType) (wait : Bool) (letter : Letter) : commandFor type .dark wait letter = .off := by
  cases type <;> cases letter <;> rfl

theorem resetEngine_group (img : Image) (g : GroupId) :
    (Engine.reset img).groups[g].state = .dark := by
  simp [Engine.reset]

/-- A state whose records are at reset over an image with a sound matrix has every form, whatever the pins and the
sequencer hold (R174). -/
theorem inForm_of_reset {s : State} {img : Image} {hand button : PanelInput} {feedback : Bool} {timer : Option Clock}
    (uptime : s.uptimeMs = 0) (matrix : matrixSound s.conflicts.matrix = true)
    (engine : s.engine = { Engine.reset img with
      hand := hand, stepButton := button, feedbackClosed := feedback, contactorTimer := timer })
    (lamps : s.lamps = LampUnit.reset img) (cable : s.cable = CableUnit.reset img) (faults : s.faults.wf)
    (history : s.history = History.empty) : s.InForm := by
  have dark : s.engine.mode = .dark := by rw [engine]; rfl
  have phase : s.engine.startPhase = .none := by rw [engine]; rfl
  have groups : ∀ g : GroupId, s.engine.groups[g].state = .dark := fun g => by rw [engine]; exact resetEngine_group img g
  refine { clock := ?_, safe := ?_, lines := ?_, service := ?_, scan := ?_, faults, history := ?_, tests := ?_, outputs := ?_ }
  · rw [State.clockSound, uptime, engine]; rfl
  · refine (junctionSafe_iff_of_stopped (by rw [dark]; rfl)).mpr ⟨matrix, ?_, fun g => ?_⟩
    · exact iff_of_true phase (by rw [dark]; nofun)
    · rw [dark, groups]; rfl
  · rw [State.linesSound, engine]; exact ⟨rfl, nofun⟩
  · rw [engine]; exact ⟨fun _ => ⟨rfl, rfl, rfl, rfl⟩, nofun, nofun⟩
  · rw [lamps]; exact ⟨Nat.zero_le _, fun h => absurd rfl h, fun _ => ⟨rfl, rfl⟩⟩
  · rw [history]; exact History.empty_wf
  · refine testsSound_iff.mpr ?_
    rw [cable]
    exact ⟨nofun, .nil⟩
  · intro c
    have wanted : s.wantedCommand c = .off := by rw [State.wantedCommand, groups, commandFor_dark]
    rw [wanted, engine]
    show (Vector.replicate 64 _)[c] = _
    simp [levelOf]

theorem matrixSound_iff {matrix : Vector GroupSet 16} : matrixSound matrix = true ↔
    ∀ i : GroupId, matrix[i][i] = false ∧ ∀ j : GroupId, matrix[i][j] = matrix[j][i] := by
  simp [matrixSound, allGroups]

theorem matrixOf_sound (n : Nat) : matrixSound (matrixOf n) = true :=
  matrixSound_iff.mpr fun i => by
    refine ⟨by simp [matrixOf], fun j => ?_⟩
    simp only [matrixOf, Fin.getElem_fin, Vector.getElem_ofFn]
    rw [Nat.min_comm j.val, Nat.max_comm j.val]
    exact congrArg (· && _) (decide_eq_decide.mpr ne_comm)

theorem default_matrixSound : matrixSound Image.default.matrix = true :=
  matrixSound_iff.mpr fun i => by
    refine ⟨by simp [Image.default], fun j => ?_⟩
    simp only [Image.default, Fin.getElem_fin, Vector.getElem_ofFn]
    exact decide_eq_decide.mpr ne_comm

/-- A matrix read from an image is a sound one (R40, R174). -/
theorem readImage_matrixSound (image : List Byte) : matrixSound (readImage image).matrix = true := by
  show matrixSound (fieldAt 6 32 rdMatrix matrixOf image) = true
  unfold fieldAt
  dsimp only
  split
  · next read =>
    unfold rdMatrix at read
    simp only [bind, Option.bind] at read
    split at read
    · cases read
    · dsimp only at read
      split at read
      · next sound =>
        cases read
        exact sound
      · cases read
  · exact matrixOf_sound _

theorem loadedFrom_inForm {img : Image} (matrix : matrixSound img.matrix = true) (outcome : LoadOutcome) (s : State) :
    (s.loadedFrom img outcome).InForm :=
  inForm_of_reset (img := img) rfl matrix rfl rfl rfl FaultTable.empty_wf rfl

theorem loadFailed_inForm (s : State) : s.loadFailed.InForm :=
  inForm_of_reset (img := Image.default) rfl default_matrixSound rfl rfl rfl
    (FaultTable.raise_wf FaultTable.empty_wf _ _ _) rfl

theorem restart_inForm (s : State) : s.restart.InForm :=
  inForm_of_reset (img := Image.default) rfl default_matrixSound rfl rfl rfl FaultTable.empty_wf rfl

theorem reset_inForm : State.reset.InForm :=
  inForm_of_reset (img := Image.default) rfl default_matrixSound rfl rfl rfl FaultTable.empty_wf rfl

end Sys2Proof.Machine
end

section
/-! Each request keeps every form and leaves the outputs current (R4 to R7, R167 to R171), in the order of the request
codes. -/

namespace Sys2Proof.Machine

/-- A cable unit with no test in flight and an empty queue. -/
theorem KeepsForm.idleCable {s : State} {u : CableUnit} (flight : u.flight = none) (queue : u.queue = []) :
    KeepsForm s { s with cable := u } :=
  .ofCable rfl fun _ => ⟨fun _ flying => (by rw [flight] at flying; cases flying), queue ▸ .nil⟩

namespace Settled

/-! ## Operations that end without bringing the outputs up to date -/

theorem takeHold (cause : HoldCause) (port : BudgetPort) (s : State) : Settled s (s.takeHold cause port) := by
  refine ofShown (.takeHold cause port s) ?_ ?_ ?_ ?_ ?_ ?_ ?_
  all_goals
    unfold State.takeHold
    cases s.engine.mode
    case run => dsimp only; split <;> [split <;> [rfl; (split <;> rfl)]; (rw [enterHeld_eq])]
    case held => dsimp only; split <;> rfl
    all_goals rfl

theorem unpend {s : State} (run : s.engine.mode = .run) : Settled s (s.onEngine fun e => { e with hold := e.hold.unpend }) :=
  ofShown (.unpend (by rw [run]; rfl)) rfl rfl rfl rfl rfl rfl rfl

theorem takeStep {index : Option Nat} {s t : State} (taken : s.takeStep index = .ok t) : Settled s t where
  toKeepsForm := .takeStep taken
  outputs _ := by
    obtain ⟨-, -, k, rfl⟩ := takeStep_ok taken
    exact present_outputsSound _

/-- A new record of the cable unit. -/
theorem ofCable {s : State} {u : CableUnit} (kept : KeepsForm s { s with cable := u }) :
    Settled s { s with cable := u } := ofElsewhere kept rfl rfl

/-- A change of the cable unit that leaves its flight and its queue. -/
theorem onCable {s : State} {f : CableUnit → CableUnit} (flight : ∀ u, (f u).flight = u.flight)
    (queue : ∀ u, (f u).queue = u.queue) : Settled s (s.onCable f) := ofElsewhere (.onCable flight queue) rfl rfl

theorem onCableSelect {s : State} {f : CableUnit → CableUnit} (flight : ∀ u, (f u).flight = u.flight)
    (queue : ∀ u, (f u).queue = u.queue) : Settled s (s.onCable f).select := (onCable flight queue).trans (select _)

theorem onCableSettle {s : State} {f : CableUnit → CableUnit} (flight : ∀ u, (f u).flight = u.flight)
    (queue : ∀ u, (f u).queue = u.queue) : Settled s (s.onCable f).settleUnit :=
  (onCable flight queue).trans (settleUnit _)

/-- The effect of an answer of OK. -/
theorem okay {s t : State} (kept : Settled s t) : Settled s (Machine.okay t).1 := kept

end Settled

/-! ## Requests -/

/-- A request settles the part when its block's effect does, whatever it answers. -/
theorem settled_serve {code : Nat} {p : Port} {s : State} {body : State → State × Answer} (taken : Settled s (body s).1) :
    Settled s (serve code p s body) :=
  serve_keeps (.refl s) taken fun _ _ kept => kept.trans (.respond _ _ _ _)

namespace Settled

theorem reqWriteGroup (n type mg ra am cl mr : Nat) (s : State) :
    Settled s (reqWriteGroup n type mg ra am cl mr s).1 := by
  unfold Machine.reqWriteGroup
  split
  · exact refl s
  · next mode =>
    split
    · exact refl s
    · split
      · dsimp only
        split
        · exact ofPresent (.writeGroup (by simpa using mode) rfl)
        · exact refl s
      · exact refl s

theorem reqReadGroup (n : Nat) (s : State) : Settled s (reqReadGroup n s).1 := by
  unfold Machine.reqReadGroup
  split <;> exact refl s

theorem reqRestart (s : State) : Settled s (reqRestart s).1 := by
  rw [reqRestart_eq]
  split_ifs
  case neg =>
    show Settled s s.restartJunction
    rw [restartJunction_eq]
    exact ofPresent (.restartMoved s)
  all_goals exact refl s

theorem reqWriteStartTimes (a b : Nat) (s : State) : Settled s (reqWriteStartTimes a b s).1 := by
  unfold Machine.reqWriteStartTimes
  split_ifs
  case neg => exact onPins id
  all_goals exact refl s

theorem safeEntry (flash : Bool) (s : State) : Settled s (s.safeEntry flash) := by
  rw [safeEntry_eq]
  exact ofPresent (.safeMoved flash s)

theorem enterFlash (s : State) : Settled s s.enterFlash := by
  unfold State.enterFlash
  split
  case h_1 | h_2 | h_3 => exact safeEntry _ s
  all_goals exact refl s

theorem enterSupplyOff (fromDark : Bool) (s : State) : Settled s (s.enterSupplyOff fromDark) := by
  unfold State.enterSupplyOff
  split
  case h_5 =>
    split
    · exact safeEntry _ s
    · exact refl s
  case h_6 => exact refl s
  all_goals exact safeEntry _ s

theorem reqForceFlash (s : State) : Settled s (reqForceFlash s).1 := by
  unfold Machine.reqForceFlash
  split
  · exact refl s
  · exact (raise s _ _).trans (enterFlash _)

theorem reqForceOff (s : State) : Settled s (reqForceOff s).1 := (raise s _ _).trans (enterSupplyOff _ _)

theorem reqHold (p : Port) (s : State) : Settled s (reqHold p s).1 := by
  unfold Machine.reqHold
  split
  · exact refl s
  · exact takeHold _ _ s

theorem reqResume (p : Port) (s : State) : Settled s (reqResume p s).1 := by
  unfold Machine.reqResume
  split
  · next held =>
    split
    · exact ofPresent (.leaveHeld held)
    · exact refl s
  · next run =>
    split
    · exact refl s
    · split
      · exact unpend run
      · exact refl s
  all_goals exact refl s

theorem reqStep (index : Option Nat) (s : State) : Settled s (reqStep index s).1 := by
  unfold Machine.reqStep
  split
  · exact refl s
  · next taken => exact takeStep taken

theorem setBudget (p : Port) (n : Nat) (s : State) : Settled s (s.setBudget p n) := onSeq rfl rfl rfl rfl

theorem reqRunSteps (p : Port) (n : Nat) (s : State) : Settled s (reqRunSteps p n s).1 := by
  unfold Machine.reqRunSteps
  split
  · next held =>
    split
    · exact (setBudget p n s).trans (ofPresent (.leaveHeld held))
    · exact refl s
  · exact setBudget p n s
  all_goals exact refl s

theorem reqWriteConflicts (matrix : Vector GroupSet 16) (s : State) : Settled s (reqWriteConflicts matrix s).1 := by
  unfold Machine.reqWriteConflicts
  split_ifs with mode saving sound covered
  case neg =>
    have stopped : isStopped s.engine.mode = true := by simpa using mode
    exact ofPresent ((KeepsForm.putMatrix (isRunning_of_stopped stopped) (by simpa using sound)).trans (.revalidate _))
  all_goals exact refl s

theorem onConflicts {s : State} {f : ConflictTable → ConflictTable} (matrix : (f s.conflicts).matrix = s.conflicts.matrix) :
    Settled s (s.onConflicts f) := ofElsewhere (.onConflicts matrix) rfl rfl

theorem completeIntergreens (rows : List IgRow) (s : State) : Settled s (s.completeIntergreens rows).1 := by
  unfold State.completeIntergreens
  dsimp only
  have emptied : Settled s (s.onConflicts fun t => { t with stagedRows := [], stagedParts := 0 }) := onConflicts rfl
  split
  · exact okay (emptied.trans (onConflicts rfl))
  · exact emptied

theorem reqWriteIntergreens (part : Nat) (rows : Vector IgRow 4) (s : State) :
    Settled s (reqWriteIntergreens part rows s).1 := by
  unfold Machine.reqWriteIntergreens
  split_ifs
  · exact refl s
  · exact refl s
  · exact refl s
  · exact refl s
  · exact completeIntergreens _ s
  · exact okay (onConflicts rfl)

theorem reqReadIntergreens (part : Nat) (s : State) : Settled s (reqReadIntergreens part s).1 := by
  unfold Machine.reqReadIntergreens
  split <;> exact refl s

/-- The plan in force is another than one that is not in use. -/
theorem plan_of_other {q : Sequencer} {p : PlanId} {plan : Plan} (other : q.inForce ≠ p) :
    Sequencer.plan { q with plans := put q.plans p plan } = q.plan := by
  unfold Sequencer.plan
  dsimp only
  rw [put_getElem, if_neg other]

theorem completePlan {p : PlanId} {s : State} (other : s.seq.inForce ≠ p) (cycle offset sync dim count : Nat)
    (stages : List StageArgs) : Settled s (s.completePlan p cycle offset sync dim count stages).1 := by
  unfold State.completePlan
  dsimp only
  have emptied : Settled s (s.onSeq fun q => { q with staging := none }) := onSeq rfl rfl rfl rfl
  split
  · exact emptied
  · split
    · exact okay (emptied.trans (onSeq (plan_of_other other) rfl rfl rfl))
    · exact emptied

theorem reqWritePlan (part : PlanPart) (s : State) : Settled s (reqWritePlan part s).1 := by
  unfold Machine.reqWritePlan
  split
  · exact refl s
  · split
    · exact refl s
    · next p _ =>
      split
      · exact refl s
      · next free =>
        have other : s.seq.inForce ≠ p := fun same => free (by simp [Sequencer.inUse, same])
        split
        · unfold State.takePlanPartOne
          split
          · exact completePlan other _ _ _ _ _ _
          · exact okay (onSeq rfl rfl rfl rfl)
        · unfold State.takePlanPartTwo
          split
          · split
            · exact completePlan other _ _ _ _ _ _
            · exact refl s
          · exact refl s
        · exact refl s

theorem reqReadPlan (plan part : Nat) (s : State) : Settled s (reqReadPlan plan part s).1 := by
  unfold Machine.reqReadPlan
  split
  · exact refl s
  · dsimp only
    split_ifs <;> exact refl s

theorem reqSelectPlan (plan : Nat) (s : State) : Settled s (reqSelectPlan plan s).1 := by
  unfold Machine.reqSelectPlan
  split
  · exact refl s
  · split
    · show Settled s (s.selectPlan _)
      rw [selectPlan_eq]
      split
      · exact onSeq rfl rfl rfl rfl
      · exact ofPresent (.onSeq s _)
    · exact refl s

theorem reqDemand (k : Nat) (s : State) : Settled s (reqDemand k s).1 := by
  unfold Machine.reqDemand
  split
  · exact refl s
  · exact ofPresent (.onSeq s _)

theorem reqExtend (x : Nat) (s : State) : Settled s (reqExtend x s).1 := by
  unfold Machine.reqExtend
  split_ifs
  · exact refl s
  · exact refl s
  · exact okay (onSeq rfl rfl rfl rfl)

theorem reqWriteSubst (e p k : Nat) (set : GroupSet) (lo hi d : Nat) (s : State) :
    Settled s (reqWriteSubst e p k set lo hi d s).1 := by
  unfold Machine.reqWriteSubst
  split
  · exact refl s
  · split
    · dsimp only
      split_ifs
      case neg => exact ofPresent (.onSeq s _)
      all_goals exact refl s
    · exact refl s

theorem reqEnableSubst (e : Nat) (s : State) : Settled s (reqEnableSubst e s).1 := by
  unfold Machine.reqEnableSubst
  split
  · exact refl s
  · split
    · exact refl s
    · split
      · exact refl s
      · exact ofPresent (.onSeq s _)

theorem reqDisableSubst (e : Nat) (s : State) : Settled s (reqDisableSubst e s).1 := by
  unfold Machine.reqDisableSubst
  split
  · exact refl s
  · split
    · exact refl s
    · exact ofPresent (.onSeq s _)

theorem reqWriteScan (m f t : Nat) (s : State) : Settled s (reqWriteScan m f t s).1 := by
  unfold Machine.reqWriteScan
  split
  · exact refl s
  · split
    · exact refl s
    · split
      · split
        · exact ofElsewhere (.writeScan _ _ _ s) rfl rfl
        · exact refl s
      · exact refl s

theorem reqReadScan (row : Nat) (s : State) : Settled s (reqReadScan row s).1 := by
  unfold Machine.reqReadScan
  split <;> exact refl s

theorem writeLamp (c : CoreId) (k : LampConfig) (s : State) : Settled s (s.writeLamp c k) := by
  refine ofElsewhere (.writeLamp c k s) ?_ ?_
  all_goals
    rw [writeLamp_eq]
    split
    · rfl
    · rw [fittedChanged_only]
      rfl

theorem reqWriteLamp (a n t b d k o z : Nat) (s : State) : Settled s (reqWriteLamp a n t b d k o z s).1 := by
  unfold Machine.reqWriteLamp
  split
  · exact refl s
  · split
    · exact refl s
    · split
      · exact writeLamp _ _ s
      · exact refl s

theorem reqLearn (a : Nat) (s : State) : Settled s (reqLearn a s).1 := by
  unfold Machine.reqLearn
  split
  · exact refl s
  · split
    · exact refl s
    · exact ofElsewhere (.beginLearn _ s) rfl rfl

theorem reqReadLamp (a : Nat) (s : State) : Settled s (reqReadLamp a s).1 := by
  unfold Machine.reqReadLamp
  split <;> exact refl s

theorem reqTestEnable (s : State) : Settled s (reqTestEnable s).1 := by
  unfold Machine.reqTestEnable
  split_ifs
  · exact refl s
  · exact refl s
  · exact okay (onCableSelect (fun _ => rfl) fun _ => rfl)

theorem reqTestDisable (s : State) : Settled s (reqTestDisable s).1 := by
  unfold Machine.reqTestDisable
  split_ifs
  · exact refl s
  · exact refl s
  · have cleared : Settled s (s.onCable (CableUnit.disable s.nowSec)) :=
      ofCable (.idleCable rfl rfl)
    exact okay (cleared.trans (settleUnit _))

theorem reqTestSet (cores : CoreSet) (s : State) : Settled s (reqTestSet cores s).1 := by
  unfold Machine.reqTestSet
  split
  · exact refl s
  · exact onCableSelect (f := fun u => { u with testSet := s.fittedOnly cores }) (fun _ => rfl) fun _ => rfl

theorem reqTestInterval (n : Nat) (s : State) : Settled s (reqTestInterval n s).1 := by
  unfold Machine.reqTestInterval
  split_ifs
  · exact refl s
  · exact refl s
  · exact okay (onCableSelect (fun _ => rfl) fun _ => rfl)

theorem reqTestStartCyclic (s : State) : Settled s (reqTestStartCyclic s).1 := by
  unfold Machine.reqTestStartCyclic
  dsimp only
  split_ifs
  · exact refl s
  · exact okay (onCableSettle (fun _ => rfl) fun _ => rfl)
  · exact refl s
  · exact refl s
  · exact okay (onCableSelect (fun _ => rfl) fun _ => rfl)

theorem reqTestStop (s : State) : Settled s (reqTestStop s).1 := by
  unfold Machine.reqTestStop
  split_ifs
  · exact refl s
  · exact refl s
  · exact okay (onCableSettle (fun _ => rfl) fun _ => rfl)
  · exact okay (onCableSelect (fun _ => rfl) fun _ => rfl)

theorem reqTestCore (c : Nat) (s : State) : Settled s (reqTestCore c s).1 := by
  unfold Machine.reqTestCore
  split
  · exact refl s
  · split
    · exact refl s
    · split_ifs with fitted queued full
      · exact refl s
      · exact refl s
      · exact refl s
      · exact ofElsewhere
          (.enqueue (by simpa using queued) (Nat.lt_of_not_le full) (Nat.pos_of_ne_zero fitted)) rfl rfl

theorem reqClearCable (c : Nat) (s : State) : Settled s (reqClearCable c s).1 := by
  unfold Machine.reqClearCable
  split
  · exact refl s
  · refine okay (.trans (.trans ?_ (clear _ _ _)) (clear _ _ _))
    exact onCable (fun _ => rfl) fun _ => rfl

theorem reqReadCable (c : Nat) (s : State) : Settled s (reqReadCable c s).1 := by
  unfold Machine.reqReadCable
  split <;> exact refl s

theorem reqWriteQualifier (n : Nat) (args : QualifierArgs) (s : State) : Settled s (reqWriteQualifier n args s).1 := by
  unfold Machine.reqWriteQualifier
  split
  · exact refl s
  · split
    · split
      · exact refl s
      · exact okay (onQuals s _)
    · exact refl s

theorem reqArm (n : Nat) (s : State) : Settled s (reqArm n s).1 := by
  unfold Machine.reqArm
  split
  · exact refl s
  · exact (onQuals s _).trans (clear _ _ _)

theorem reqDisarm (n : Nat) (s : State) : Settled s (reqDisarm n s).1 := by
  unfold Machine.reqDisarm
  split
  · exact refl s
  · exact okay (onQuals s _)

theorem reqReadQualifier (n : Nat) (s : State) : Settled s (reqReadQualifier n s).1 := by
  unfold Machine.reqReadQualifier
  split <;> exact refl s

theorem reqAckFault (k x : Nat) (s : State) : Settled s (reqAckFault k x s).1 := by
  unfold Machine.reqAckFault
  split
  · exact refl s
  · exact ofElsewhere (.acknowledge s _) rfl rfl

theorem reqClearOverflow (s : State) : Settled s (reqClearOverflow s).1 := ofElsewhere (.overflowCleared s) rfl rfl

theorem reqReadFaults (k : Nat) (s : State) : Settled s (reqReadFaults k s).1 := by
  unfold Machine.reqReadFaults
  split <;> exact refl s

theorem reqReadHistory (p : Port) (s : State) : Settled s (reqReadHistory p s).1 := by
  unfold Machine.reqReadHistory
  split
  · exact refl s
  · exact ofElsewhere (.seek s p _) rfl rfl

theorem reqSeekHistory (p : Port) (s : State) : Settled s (reqSeekHistory p s).1 :=
  ofElsewhere (.seek s p _) rfl rfl

theorem reqSaveStore (s : State) : Settled s (reqSaveStore s).1 := by
  unfold Machine.reqSaveStore
  split
  · exact refl s
  · exact onStore s _

end Settled

/-- A request settles the part. -/
theorem request_settled {i : Instr} (request : (requestOf i).isSome = true) (s : State) :
    ∃ t, exec i s = .next t ∧ Settled s t := by
  cases i with
  | writeGroup n ty mg ra am cl mr => exact ⟨_, rfl, settled_serve (.reqWriteGroup n ty mg ra am cl mr s)⟩
  | readGroup p n => exact ⟨_, rfl, settled_serve (.reqReadGroup n s)⟩
  | restart => exact ⟨_, rfl, settled_serve (.reqRestart s)⟩
  | writeStartTimes a b => exact ⟨_, rfl, settled_serve (.reqWriteStartTimes a b s)⟩
  | forceFlash => exact ⟨_, rfl, settled_serve (.reqForceFlash s)⟩
  | forceOff => exact ⟨_, rfl, settled_serve (.reqForceOff s)⟩
  | hold p => exact ⟨_, rfl, settled_serve (.reqHold p s)⟩
  | resume p => exact ⟨_, rfl, settled_serve (.reqResume p s)⟩
  | step p k => exact ⟨_, rfl, settled_serve (.reqStep k s)⟩
  | runSteps p n => exact ⟨_, rfl, settled_serve (.reqRunSteps p n s)⟩
  | readMode p => exact ⟨_, rfl, settled_serve (.refl s)⟩
  | writeConflicts m => exact ⟨_, rfl, settled_serve (.reqWriteConflicts m s)⟩
  | writeIntergreens k rows => exact ⟨_, rfl, settled_serve (.reqWriteIntergreens k rows s)⟩
  | readConflicts p => exact ⟨_, rfl, settled_serve (.refl s)⟩
  | readIntergreens p k => exact ⟨_, rfl, settled_serve (.reqReadIntergreens k s)⟩
  | readInterstage p => exact ⟨_, rfl, settled_serve (.refl s)⟩
  | writePlan part => exact ⟨_, rfl, settled_serve (.reqWritePlan part s)⟩
  | readPlan p n k => exact ⟨_, rfl, settled_serve (.reqReadPlan n k s)⟩
  | selectPlan n => exact ⟨_, rfl, settled_serve (.reqSelectPlan n s)⟩
  | demand k => exact ⟨_, rfl, settled_serve (.reqDemand k s)⟩
  | extend x => exact ⟨_, rfl, settled_serve (.reqExtend x s)⟩
  | writeSubst e n k set lo hi d => exact ⟨_, rfl, settled_serve (.reqWriteSubst e n k set lo hi d s)⟩
  | enableSubst e => exact ⟨_, rfl, settled_serve (.reqEnableSubst e s)⟩
  | disableSubst e => exact ⟨_, rfl, settled_serve (.reqDisableSubst e s)⟩
  | readSubst p => exact ⟨_, rfl, settled_serve (.refl s)⟩
  | readSequence p => exact ⟨_, rfl, settled_serve (.refl s)⟩
  | readSync p => exact ⟨_, rfl, settled_serve (.refl s)⟩
  | writeScan m f t => exact ⟨_, rfl, settled_serve (.reqWriteScan m f t s)⟩
  | readSnapshot p => exact ⟨_, rfl, settled_serve (.refl s)⟩
  | readScan p row => exact ⟨_, rfl, settled_serve (.reqReadScan row s)⟩
  | writeLamp a n t b d k o z => exact ⟨_, rfl, settled_serve (.reqWriteLamp a n t b d k o z s)⟩
  | learn a => exact ⟨_, rfl, settled_serve (.reqLearn a s)⟩
  | readLamp p a => exact ⟨_, rfl, settled_serve (.reqReadLamp a s)⟩
  | testEnable => exact ⟨_, rfl, settled_serve (.reqTestEnable s)⟩
  | testDisable => exact ⟨_, rfl, settled_serve (.reqTestDisable s)⟩
  | testSet cores => exact ⟨_, rfl, settled_serve (.reqTestSet cores s)⟩
  | testInterval n => exact ⟨_, rfl, settled_serve (.reqTestInterval n s)⟩
  | testStartCyclic => exact ⟨_, rfl, settled_serve (.reqTestStartCyclic s)⟩
  | testStop => exact ⟨_, rfl, settled_serve (.reqTestStop s)⟩
  | testCore c => exact ⟨_, rfl, settled_serve (.reqTestCore c s)⟩
  | clearCable c => exact ⟨_, rfl, settled_serve (.reqClearCable c s)⟩
  | readCable p c => exact ⟨_, rfl, settled_serve (.reqReadCable c s)⟩
  | readTestUnit p => exact ⟨_, rfl, settled_serve (.refl s)⟩
  | writeQualifier n args => exact ⟨_, rfl, settled_serve (.reqWriteQualifier n args s)⟩
  | arm n => exact ⟨_, rfl, settled_serve (.reqArm n s)⟩
  | disarm n => exact ⟨_, rfl, settled_serve (.reqDisarm n s)⟩
  | readQualifier p n => exact ⟨_, rfl, settled_serve (.reqReadQualifier n s)⟩
  | ackFault p k x => exact ⟨_, rfl, settled_serve (.reqAckFault k x s)⟩
  | clearOverflow => exact ⟨_, rfl, settled_serve (.reqClearOverflow s)⟩
  | readFaults p k => exact ⟨_, rfl, settled_serve (.reqReadFaults k s)⟩
  | readHistory p => exact ⟨_, rfl, settled_serve (.reqReadHistory p s)⟩
  | seekHistory p => exact ⟨_, rfl, settled_serve (.reqSeekHistory p s)⟩
  | saveStore => exact ⟨_, rfl, settled_serve (.reqSaveStore s)⟩
  | readStore p => exact ⟨_, rfl, settled_serve (.refl s)⟩
  | _ => cases request

/-- Handing a request to its block is commanding it; nothing else is handed on (R167). -/
theorem hand_eq (i : Instr) (s : State) :
    s.hand i = if (requestOf i).isSome = true then settled s (exec i s) else s := by
  cases i <;> rfl

theorem hand_settled (i : Instr) (s : State) : Settled s (s.hand i) := by
  rw [hand_eq]
  split
  · next request =>
    obtain ⟨t, next, kept⟩ := request_settled request s
    rw [next]
    exact kept
  · exact .refl s

end Sys2Proof.Machine
end

section
/-! Each event and each step keeps every form and leaves the outputs current, and with that the invariants of a step
(R3 to R6, R17, R19 to R23, R28, R31, R32, R40, R52, R55, R56, R95 to R101, R134 to R138, R156, R162, R164). -/

namespace Sys2Proof.Machine

/-- An event settles the part when its effect does. -/
theorem settled_event {s : State} {f : State → State} (taken : Settled s (f s)) : Settled s (event s f) :=
  event_keeps (.refl s) taken

namespace Settled

/-! ## The engine and the sequencer -/

theorem decisecond (s : State) : Settled s s.decisecond where
  toKeepsForm := .decisecond s
  outputs _ := by
    unfold State.decisecond
    exact (send _ _).outputs (present_outputsSound _)

theorem timedExit (g : GroupId) (s : State) : Settled s (s.timedExit g) where
  toKeepsForm := .timedExit g s
  outputs sound := by
    unfold State.timedExit
    split
    · exact present_outputsSound _
    · exact sound

theorem flashPhaseEnd (s : State) :
    Settled s (if s.engine.flashPhaseOver then (s.onEngine Engine.beginAllRed).present else s) := by
  split
  · next done => exact ofPresent (.beginAllRed (flashPhaseOver_iff.mp done).1)
  · exact refl s

theorem allRedPhaseEnd (s : State) : Settled s (if s.engine.allRedPhaseOver then s.beginRun.present else s) := by
  split
  · next done => exact ofPresent (.beginRun done)
  · exact refl s

theorem tick (s : State) : Settled s s.tick where
  toKeepsForm := .tick s
  outputs _ := by
    unfold State.tick
    exact present_outputsSound _

theorem correctionSpent (s : State) : Settled s
    (if s.seq.correction.spent then s.onSeq fun q => { q with correction := q.correction.drop } else s) := by
  split
  · exact onSeq rfl rfl rfl rfl
  · exact refl s

theorem watchExpiry (s : State) : Settled s (if s.watchOver then s.expireWatch else s) := by
  split
  · refine .trans ?_ (raise _ _ _)
    exact onSeq rfl rfl rfl rfl
  · exact refl s

theorem takeRedLoss (g : GroupId) (s : State) : Settled s (s.takeRedLoss g) := by
  unfold State.takeRedLoss
  dsimp only
  split
  · exact refl s
  · refine ofPresent (.trans (.ofGroups (s := s) rfl fun safe => ?_) (.inhibitionEvent _))
    refine junctionSafe_of_same (s := s) rfl rfl (fun h => ?_) (fun h => ?_) (.inl rfl) safe
    all_goals
      show _ = _
      simp only [State.onEngine, change_getElem]
      split <;> rfl

theorem pulse (s : State) : Settled s s.pulse := by
  unfold State.pulse
  dsimp only
  have seen : Settled s ((s.clear .syncLost .none).onSeq fun q =>
      { q with sync := { q.sync with lastPulse := some s.engine.clock } }) :=
    (clear s _ _).trans (onSeq rfl rfl rfl rfl)
  split
  · refine .trans seen ?_
    exact onSeq rfl rfl rfl rfl
  · exact seen

theorem filterExpiry (s : State) : Settled s s.filterExpiry := by
  unfold State.filterExpiry
  split
  · refine .trans ?_ (pulse _)
    exact onSeq rfl rfl rfl rfl
  · exact refl s

theorem handOn (s : State) : Settled s s.handOn := by
  unfold State.handOn
  split
  · exact (onPanel _ _ s).trans (takeHold _ _ _)
  · exact refl s

theorem handOff (s : State) : Settled s s.handOff := by
  unfold State.handOff
  split
  · have taken := onPanel .hand PanelInput.settle s
    dsimp only
    split
    · next held =>
      split
      · exact taken.trans (ofPresent (.leaveHeld held))
      · exact taken
    · next run =>
      split
      · exact taken.trans (unpend run)
      · exact taken
    all_goals exact taken
  · exact refl s

theorem stepPress (s : State) : Settled s s.stepPress := by
  unfold State.stepPress
  split
  · have taken := onPanel .step PanelInput.settle s
    dsimp only
    split
    · next stepped => exact taken.trans (takeStep stepped)
    · exact taken
  · exact refl s

theorem stepRelease (s : State) : Settled s s.stepRelease := by
  unfold State.stepRelease
  split
  · exact onPanel _ _ s
  · exact refl s

theorem onSync {s : State} (sync : SyncRecord) : Settled s { s with seq := { s.seq with sync := sync } } :=
  ofShown (.onSeq s fun q => { q with sync := sync }) rfl rfl rfl rfl rfl rfl rfl

/-! ## The lamp and the cable units -/

theorem actAll (s : State) (actions : List FaultAction) : Settled s (s.actAll actions) := by
  rw [actAll_only]
  refine ofElsewhere ?_ rfl rfl
  rw [← actAll_only]
  exact .actAll s actions

theorem completeFrame_engine (s : State) : s.completeFrame.engine = s.engine := by
  unfold State.completeFrame
  dsimp only [State.onLamps, State.send, State.onOutbox]
  rw [actAll_only]
  dsimp only
  rw [actAll_only]
  dsimp only
  rw [actAll_only]

theorem completeFrame_seq (s : State) : s.completeFrame.seq = s.seq := by
  unfold State.completeFrame
  dsimp only [State.onLamps, State.send, State.onOutbox]
  rw [actAll_only]
  dsimp only
  rw [actAll_only]
  dsimp only
  rw [actAll_only]

theorem zeroCrossEdge (readings : Vector Reading 16) (s : State) : Settled s (s.zeroCrossEdge readings) := by
  refine ofElsewhere (.zeroCrossEdge readings s) ?_ ?_
  all_goals
    unfold State.zeroCrossEdge
    dsimp only
    split
    · rfl
    · cases s.lamps.scanState with
      | suspended => rfl
      | scanning =>
        dsimp only
        split
        · simp only [State.startSlot, State.onLamps, completeFrame_engine, completeFrame_seq]
        · rfl

theorem ofLampUnit {s : State} {u : LampUnit} (kept : KeepsForm s { s with lamps := u }) :
    Settled s { s with lamps := u } := ofElsewhere kept rfl rfl

theorem notice {elig : CoreId → Bool} {s : State} {c : CoreId} (eligible : ∀ x, elig x = true → s.eligible x = true) :
    Settled s (s.notice elig c) :=
  ofElsewhere (.notice eligible) (by rw [notice_only]) (by rw [notice_only])

theorem declared (c : CoreId) (origin : QueueOrigin) (s : State) : Settled s (s.declared c origin) :=
  ofElsewhere (.declared c origin s) (by rw [declared_only]) (by rw [declared_only])

theorem commandChanged (c : CoreId) (command : AspectCommand) (s : State) : Settled s (s.commandChanged c command) := by
  unfold State.commandChanged
  dsimp only
  refine .trans ?_ (select _)
  split
  · exact ofCable (.markSeen s _)
  · exact refl s

theorem intervalExpiry (s : State) : Settled s s.intervalExpiry := by
  unfold State.intervalExpiry
  split
  · exact onCableSelect (fun _ => rfl) fun _ => rfl
  · exact refl s

theorem positiveEnd (current : Int) (s : State) : Settled s (s.positiveEnd current) := by
  unfold State.positiveEnd
  split
  · next f flying =>
    split
    · refine ofCable (.ofCable rfl fun sound => ⟨fun f' next => ?_, sound.queue⟩)
      rw [← Option.some.inj next]
      exact sound.flight f flying
    · exact refl s
  · exact refl s

theorem completeTest (f : Flight) (negative : Int) (s : State) : Settled s (s.completeTest f negative) := by
  refine ofElsewhere (.completeTest f negative s) ?_ ?_
  all_goals
    unfold State.completeTest
    dsimp only
    cases testClass (f.positive.getD 0) negative <;> rfl

theorem negativeEnd (current : Int) (s : State) : Settled s (s.negativeEnd current) := by
  unfold State.negativeEnd
  split
  · split
    · exact completeTest _ _ s
    · exact refl s
  · exact refl s

theorem waitExpired (e : QueueEntry) (s : State) : Settled s (s.waitExpired e) := by
  refine ofElsewhere (.waitExpired e s) ?_ ?_
  all_goals
    unfold State.waitExpired
    split <;> rfl

theorem waitExpiry (c : CoreId) (s : State) : Settled s (s.waitExpiry c) := by
  unfold State.waitExpiry
  split
  · split
    · exact refl s
    · exact waitExpired _ s
  · exact refl s

/-! ## Qualifiers, tables and the store -/

theorem evaluate (value : Qualifier → Option Int) (s : State) (n : QualId) : Settled s (s.evaluate value n) := by
  unfold State.evaluate
  split
  · unfold State.evaluateAt
    dsimp only
    split
    · exact .trans (onQuals s _) (.trans (raise _ _ _) (send _ _))
    · exact onQuals s _
  · exact refl s

theorem evaluateAll (value : Qualifier → Option Int) (s : State) : Settled s (s.evaluateAll value) := by
  have turns : ∀ (ns : List QualId) (t : State), Settled t (ns.foldl (State.evaluate value) t) := fun ns => by
    induction ns with
    | nil => exact refl
    | cons n rest ih => exact fun t => (evaluate value t n).trans (ih _)
  exact turns _ s

theorem faultRaise (kind : FaultKind) (subject : Subject) (s : State) :
    Settled s (if suits kind subject then s.raise kind subject else s) := by
  split
  · exact raise s _ _
  · exact refl s

theorem loadEnd (memory : List Byte) (s : State) : Settled s
    (if s.loading then
      match judgeImage memory with
      | some img => if s.store.inTime then (s.memoryRead memory).loadedFrom img .good else (s.memoryRead memory).loadFailed
      | none => (s.memoryRead memory).loadFailed
    else s) := by
  have failed : Settled s (s.memoryRead memory).loadFailed := ofInForm rfl (loadFailed_inForm _)
  split
  · split
    · next img judged =>
      split
      · refine ofInForm rfl (loadedFrom_inForm ?_ _ _)
        unfold judgeImage at judged
        split at judged
        · rw [← Option.some.inj judged]
          exact readImage_matrixSound memory
        · cases judged
      · exact failed
    · exact failed
  · exact refl s

theorem saveEnd (memory : List Byte) (s : State) : Settled s
    (if s.saving then
      if imageGood memory && s.store.inTime then ((s.memoryRead memory).saveEnds .good).clear .storeCheck .none
      else ((s.memoryRead memory).saveEnds .bad).raise .storeCheck .none
    else s) := by
  have read : ∀ outcome, Settled s ((s.memoryRead memory).saveEnds outcome) := fun outcome =>
    (onStore s _).trans (onStore _ _)
  split
  · split
    · exact (read _).trans (clear _ _ _)
    · exact (read _).trans (raise _ _ _)
  · exact refl s

/-! ## The ports -/

theorem takeFrame (p : Port) (frame : List Byte) (s : State) : Settled s (s.takeFrame p frame) := by
  unfold State.takeFrame
  dsimp only
  split_ifs
  · exact respond s _ _ _
  · exact respond s _ _ _
  · exact respond s _ _ _
  · split
    · exact respond s _ _ _
    · exact (onPort s _ _).trans (hand_settled _ _)

theorem frameByte (p : Port) (b : Byte) (s : State) : Settled s (s.frameByte p b) := by
  unfold State.frameByte
  dsimp only
  split
  · split
    · exact onPort s _ _
    · exact refl s
  · split_ifs
    · exact onPort s _ _
    · exact takeFrame _ _ s
    · exact onPort s _ _
  · exact refl s
  all_goals
    split
    · exact onPort s _ _
    · exact refl s

theorem takeByte (p : Port) (b : Byte) (s : State) : Settled s (s.takeByte p b) := by
  have taken : ∀ u : State, Settled s u → Settled s
      (if (u.ports.at p).ignoring then u
       else if !(u.ports.at p).shadow.isEmpty then u.onPort p (PortRecord.shadowByte b) else u.frameByte p b) :=
    fun u kept => by
      split_ifs
      · exact kept
      · exact kept.trans (onPort _ _ _)
      · exact kept.trans (frameByte _ _ _)
  exact taken _ (onPort s p _)

end Settled

/-! ## Every command -/

/-- An event that is not a request settles the part. -/
theorem event_settled {i : Instr} (other : requestOf i = none) (s : State) : ∃ t, exec i s = .next t ∧ Settled s t := by
  cases i with
  | requestFrameComplete p check =>
    refine ⟨_, rfl, settled_event ?_⟩
    split
    · exact .takeByte _ _ s
    · exact .refl s
  | frameLengthOver96 p length =>
    refine ⟨_, rfl, settled_event ?_⟩
    split
    · exact .takeByte _ _ s
    · exact .refl s
  | selectRelease p =>
    refine ⟨_, rfl, ?_⟩
    split_ifs
    · exact .refl s
    · exact .onPort s _ _
    · exact .onPort s _ _
  | maintenanceGapExpiry => exact ⟨_, rfl, settled_event (.onPort s _ _)⟩
  | maintenanceResponseSent => exact ⟨_, rfl, settled_event (.onPort s _ _)⟩
  | decisecondStep => exact ⟨_, rfl, settled_event (.decisecond s)⟩
  | timedStateExit g => exact ⟨_, rfl, settled_event (.timedExit g s)⟩
  | flashPhaseEnd => exact ⟨_, rfl, settled_event (.flashPhaseEnd s)⟩
  | allRedPhaseEnd => exact ⟨_, rfl, settled_event (.allRedPhaseEnd s)⟩
  | sequencerTick => exact ⟨_, rfl, settled_event ((Settled.taking s _).trans (.tick _))⟩
  | correctionSpent => exact ⟨_, rfl, settled_event (.correctionSpent s)⟩
  | syncWatchExpiry => exact ⟨_, rfl, settled_event (.watchExpiry s)⟩
  | stageRequest r =>
    exact ⟨_, rfl, settled_event ((Settled.taking s _).trans (.ofPresent (.takeRequest r _)))⟩
  | stepCountHold port => exact ⟨_, rfl, settled_event ((Settled.taking s _).trans (.takeHold _ _ _))⟩
  | redLossChange g => exact ⟨_, rfl, settled_event ((Settled.taking s _).trans (.takeRedLoss g _))⟩
  | conflictObservedDeclaration g => exact ⟨_, rfl, settled_event ((Settled.taking s _).trans (.enterSupplyOff _ _))⟩
  | qualifierFlash => exact ⟨_, rfl, settled_event ((Settled.taking s _).trans (.enterFlash _))⟩
  | qualifierHold => exact ⟨_, rfl, settled_event ((Settled.taking s _).trans (.takeHold _ _ _))⟩
  | panelRawChange input on => exact ⟨_, rfl, .onPanel _ _ s⟩
  | handOn => exact ⟨_, rfl, settled_event (.handOn s)⟩
  | handOff => exact ⟨_, rfl, settled_event (.handOff s)⟩
  | stepPress => exact ⟨_, rfl, settled_event (.stepPress s)⟩
  | contactorFeedbackChange closed =>
    refine ⟨_, rfl, ?_⟩
    split
    · exact .onPins id
    · exact .feedbackChange closed s
  | contactorTimerExpiry => exact ⟨_, rfl, settled_event (.contactorExpiry s)⟩
  | syncInputRise => exact ⟨_, rfl, .onSync _⟩
  | syncInputFall => exact ⟨_, rfl, .onSync _⟩
  | countedPulse => exact ⟨_, rfl, settled_event (.filterExpiry s)⟩
  | zeroCross readings => exact ⟨_, rfl, settled_event (.zeroCrossEdge readings s)⟩
  | scanSuspend =>
    refine ⟨_, rfl, settled_event ?_⟩
    split
    · exact .ofLampUnit (.suspend s)
    · exact .refl s
  | aspectLevelChange c lit => exact ⟨_, rfl, settled_event ((Settled.taking s _).trans (.ofLampUnit .ofScan))⟩
  | dimChange on => exact ⟨_, rfl, settled_event ((Settled.taking s _).trans (.ofLampUnit .ofScan))⟩
  | junctionModeNotice block mode =>
    refine ⟨_, rfl, settled_event ((Settled.taking s (.junctionModeNotice block mode)).trans ?_)⟩
    cases block
    case lampUnit => exact .ofLampUnit .ofScan
    all_goals exact .refl _
  | lampFrameResult results => exact ⟨_, rfl, settled_event ((Settled.taking s _).trans (.evaluateAll _ _))⟩
  | cableResult c cls leakage offset => exact ⟨_, rfl, settled_event ((Settled.taking s _).trans (.evaluateAll _ _))⟩
  | lampOutDeclaration c => exact ⟨_, rfl, settled_event ((Settled.taking s _).trans (.declared _ _ _))⟩
  | redLostDeclaration c => exact ⟨_, rfl, settled_event ((Settled.taking s _).trans (.declared _ _ _))⟩
  | aspectCommandChange c command => exact ⟨_, rfl, settled_event ((Settled.taking s _).trans (.commandChanged _ _ _))⟩
  | energiseNotice c =>
    exact ⟨_, rfl, settled_event (.notice fun x eligible => (Bool.and_eq_true_iff.mp eligible).1)⟩
  | intervalExpiry => exact ⟨_, rfl, settled_event (.intervalExpiry s)⟩
  | positivePhaseEnd current => exact ⟨_, rfl, settled_event (.positiveEnd current s)⟩
  | testCompletion current => exact ⟨_, rfl, settled_event (.negativeEnd current s)⟩
  | waitLimitExpiry c => exact ⟨_, rfl, settled_event (.waitExpiry c s)⟩
  | faultRaise kind subject => exact ⟨_, rfl, settled_event (.faultRaise kind subject s)⟩
  | faultClear kind subject => exact ⟨_, rfl, settled_event (.clear s _ _)⟩
  | historyEntry item => exact ⟨_, rfl, settled_event (.record s _)⟩
  | powerOnReset => exact ⟨_, rfl, .ofInForm rfl (restart_inForm s)⟩
  | storeLoadEnd memory => exact ⟨_, rfl, .loadEnd memory s⟩
  | storeLoadTimeout =>
    refine ⟨_, rfl, ?_⟩
    split
    · exact .ofInForm rfl (loadFailed_inForm s)
    · exact .refl s
  | storeSaveEnd memory => exact ⟨_, rfl, .saveEnd memory s⟩
  | storeSaveTimeout =>
    refine ⟨_, rfl, ?_⟩
    split
    · exact (Settled.onStore s _).trans (.raise _ _ _)
    · exact .refl s
  | stepTurningOff => exact ⟨_, rfl, settled_event (.stepRelease s)⟩
  | incomingByte p b => exact ⟨_, rfl, settled_event (.takeByte p b s)⟩
  | selectionStart p =>
    refine ⟨_, rfl, ?_⟩
    split_ifs
    · exact .refl s
    · exact .onPort s _ _
    · exact .onPort s _ _
  | _ => cases other

/-- Every command settles the part. -/
theorem exec_settled {i : Instr} {s t : State} (next : exec i s = .next t) : Settled s t := by
  have found : ∃ u, exec i s = .next u ∧ Settled s u := by
    cases request : requestOf i with
    | none => exact event_settled request s
    | some code => exact request_settled (by rw [request]; rfl) s
  obtain ⟨u, taken, kept⟩ := found
  obtain rfl : u = t := Host.Outcome.next.inj (taken.symm.trans next)
  exact kept

/-! ## Every step -/

/-- What a step keeps of the forms: a step may also take a command out of the queue, count an expiry and count a
millisecond. -/
structure StepKeeps (s t : State) : Prop where
  clock : s.clockSound → t.clockSound
  safe : s.junctionSafe → t.junctionSafe
  lines : s.linesSound → t.linesSound
  service : s.engine.serviceSound → t.engine.serviceSound
  scan : s.lamps.scanSound → t.lamps.scanSound
  faults : s.faults.wf → t.faults.wf
  history : s.history.wf → t.history.wf
  tests : s.testsSound → t.testsSound
  outputs : s.outputsSound → t.outputsSound

/-- A settled move from a state that differs in the queue and the count of expiries alone. -/
theorem StepKeeps.ofSettled {s t : State} {pending : List Instr} {expiries : Nat}
    (kept : Settled { s with pending := pending, expiries := expiries } t) : StepKeeps s t where
  clock := kept.clock
  safe := kept.safe
  lines := kept.lines
  service := kept.service
  scan := kept.scan
  faults := kept.faults
  history := kept.history
  tests := kept.tests
  outputs := kept.outputs

/-- A millisecond that ends no 100 ms leaves the decisecond clock right (R3). -/
theorem uncounted_millisecond {uptime : Nat} (within : uptime % 100 ≠ 99) : (uptime + 1) / 100 = uptime / 100 := by omega

theorem millisecond_keeps {s t : State} (next : s.millisecond = .next t) : StepKeeps s t := by
  unfold State.millisecond at next
  split at next
  · cases next
    exact .ofSettled (.onStore s _)
  · split at next
    · exact .ofSettled (exec_settled next)
    · next within =>
      cases next
      have kept := Settled.onStore s (Store.pass 1)
      exact
        { clock := fun sound => sound.trans (congrArg (BitVec.ofNat 32) (uncounted_millisecond within).symm)
          safe := kept.safe
          lines := kept.lines
          service := kept.service
          scan := kept.scan
          faults := kept.faults
          history := kept.history
          tests := kept.tests
          outputs := kept.outputs }

theorem step_keeps {s t : State} (next : step s = .next t) : StepKeeps s t := by
  unfold step at next
  split at next
  · exact .ofSettled (exec_settled next)
  · unfold State.idle at next
    split at next
    · exact .ofSettled (exec_settled next)
    · split at next
      · exact .ofSettled (exec_settled next)
      · exact millisecond_keeps next

/-! ## The invariants -/

/-- Settles O2: every command keeps the queue of waiting commands among what `Settled` holds. -/
theorem commandsLeaveQueue : Obligations.CommandsLeaveQueue := fun _ _ _ next => (exec_settled next).pending

/-- Settles O7. -/
theorem junctionStaysSafe : Obligations.JunctionStaysSafe := fun _ _ safe next => (step_keeps next).safe safe

/-- Settles O8. -/
theorem outputsStayCurrent : Obligations.OutputsStayCurrent := fun _ _ sound next => (step_keeps next).outputs sound

/-- Settles O9. -/
theorem testsKeepOffLitCores : Obligations.TestsKeepOffLitCores := fun _ _ sound next => (step_keeps next).tests sound

/-- Settles O10. -/
theorem tablesKeepForm : Obligations.TablesKeepForm := fun _ _ ⟨faults, history⟩ next =>
  ⟨(step_keeps next).faults faults, (step_keeps next).history history⟩

/-- Settles O11. -/
theorem linesFollowMode : Obligations.LinesFollowMode :=
  ⟨fun _ _ sound next => (step_keeps next).lines sound, fun _ _ sound next => (step_keeps next).scan sound⟩

/-- Settles O12. -/
theorem serviceKeepsForm : Obligations.ServiceKeepsForm := fun _ _ sound next => (step_keeps next).service sound

/-- Settles O13. -/
theorem clockCountsTime : Obligations.ClockCountsTime := fun _ _ sound next => (step_keeps next).clock sound

/-- Settles O14: every record is at its reset value over the default image, whose matrix is sound. -/
theorem resetMeetsInvariants : Obligations.ResetMeetsInvariants :=
  have form := reset_inForm
  ⟨form.safe, form.outputs, form.tests.1, form.tests.2, form.faults, form.history, form.lines, form.clock, form.service,
    form.scan⟩

end Sys2Proof.Machine
end

section
/-! What holds of every command or of every answer: the rights of the ports (R171), the response that is built (R169), the
part while it loads (R174), and the end of a test on a core about to be lit (R7, R141). -/

namespace Sys2Proof.Machine

/-! ## Rights -/

/-- Whether R171 gives a port the request with a code, by the port. -/
def inRightsTable (code : Nat) (p : Port) : Bool :=
  decide (code ∈ [2, 11, 14, 15, 16, 18, 25, 26, 27, 30, 33, 42, 43, 47, 50, 51, 52, 54]) ||
  match p with
  | .plan => decide (code ∈ [1, 7, 8, 9, 10, 17, 19, 20, 21, 22, 23, 24, 28, 31, 53])
  | .monitor => decide (code ∈ [3, 4, 5, 6, 12, 13, 29, 48])
  | .maintenance => decide (code ∈ [7, 8, 9, 10, 29, 32, 34, 35, 36, 37, 38, 39, 40, 41, 44, 45, 46, 48, 49])

theorem permitted_within_table (p : Port) : ∀ code : Fin 55, permitted code p = inRightsTable code p := by
  cases p <;> decide

theorem permitted_eq (code : Nat) (p : Port) : permitted code p = inRightsTable code p := by
  by_cases small : code < 55
  · exact permitted_within_table p ⟨code, small⟩
  · have none : rights code = none := by
      unfold rights
      simp only [List.mem_cons, List.not_mem_nil, or_false]
      split_ifs <;> first | omega | rfl
    have outside : inRightsTable code p = false := by
      cases p <;> simp only [inRightsTable, List.mem_cons, List.not_mem_nil, or_false, Bool.or_eq_false_iff,
        decide_eq_false_iff_not] <;> omega
    rw [permitted, none, outside]

/-- A request made by a command is served for its port and code. -/
theorem exec_serve {i : Instr} {p : Port} {code : Nat} (request : requestOf i = some (p, code)) (s : State) :
    ∃ body, exec i s = .next (serve code p s body) := by
  cases i <;> first
    | (obtain ⟨rfl, rfl⟩ := Prod.mk.inj (Option.some.inj request); exact ⟨_, rfl⟩)
    | cases request

theorem exec_refused {i : Instr} {p : Port} {code : Nat} {s : State} (request : requestOf i = some (p, code))
    (refused : permitted code p = false) (ready : s.loading = false) :
    exec i s = .next (s.refusedWith p code .notPermitted) := by
  obtain ⟨body, served⟩ := exec_serve request s
  rw [served, serve_not_permitted ready refused, State.refusedWith]

/-- Settles O3: every request is served through `serve`, which tests the right, and the rights are those of R171's table. -/
theorem requestNeedsItsRight : Obligations.RequestNeedsItsRight := by
  refine ⟨fun i p code s request refused ready => exec_refused request refused ready, fun s index n m ready => ?_,
    fun p code => ?_⟩
  · exact ⟨exec_refused rfl rfl ready, exec_refused rfl rfl ready, exec_refused rfl rfl ready, exec_refused rfl rfl ready,
      exec_refused rfl rfl ready, exec_refused rfl rfl ready⟩
  · rw [permitted_eq]
    cases p <;> simp [inRightsTable]

/-! ## The response -/

/-- Settles O5. -/
theorem responseIsBuilt : Obligations.ResponseIsBuilt := by
  intro p q code a s
  refine ⟨?_, fun other => ?_, rfl⟩
  · rw [State.respond_ports, PerPort.at_put_self]
    exact ⟨rfl, rfl, rfl⟩
  · rw [State.respond_ports, PerPort.at_put_other _ _ _ _ other]

/-! ## Loading -/

theorem event_waits {s : State} (loading : s.loading = true) (f : State → State) : event s f = s := by
  rw [event, if_pos loading]

theorem serve_waits {s : State} (loading : s.loading = true) (code : Nat) (p : Port) (body : State → State × Answer) :
    serve code p s body = s := by
  rw [serve, if_pos loading]

/-- No save runs while the image is loaded. -/
theorem saving_of_loading {s : State} (loading : s.loading = true) : s.saving = false := by
  have state : s.store.state = .loading := of_decide_eq_true loading
  rw [State.saving, state]
  rfl

theorem isClocked_of_ne {p : Port} (clocked : p ≠ .maintenance) : isClocked p = true := by
  cases p
  case maintenance => exact absurd rfl clocked
  all_goals rfl

/-- Settles O4: requests and events wait for the load, and the commands that do not are those of the load, a reset, and the
levels of the pins. -/
theorem nothingMovesWhileLoading : Obligations.NothingMovesWhileLoading := by
  intro i s loading
  cases request : requestOf i with
  | some code =>
    obtain ⟨body, served⟩ := exec_serve (p := code.1) (code := code.2) request s
    exact .inl (served.trans (congrArg _ (serve_waits loading _ _ _)))
  | none =>
    have notSaving := saving_of_loading loading
    cases i with
    | storeLoadEnd memory => exact .inr (.inl ⟨memory, rfl⟩)
    | storeLoadTimeout => exact .inr (.inr (.inl rfl))
    | powerOnReset => exact .inr (.inr (.inr (.inl rfl)))
    | panelRawChange input on =>
      cases input with
      | hand => exact .inr (.inr (.inr (.inr (.inl ⟨on, rfl, by simp only [exec, execPanelRawChange, loading]; rfl⟩))))
      | step =>
        exact .inr (.inr (.inr (.inr (.inr (.inl ⟨on, rfl, by simp only [exec, execPanelRawChange, loading]; rfl⟩)))))
    | contactorFeedbackChange closed =>
      exact .inr (.inr (.inr (.inr (.inr (.inr (.inl
        ⟨closed, rfl, by rw [exec, execContactorFeedbackChange, if_pos loading]; rfl⟩))))))
    | syncInputRise =>
      exact .inr (.inr (.inr (.inr (.inr (.inr (.inr (.inl
        ⟨rfl, by simp only [exec, execSyncInputRise, loading]; rfl⟩)))))))
    | syncInputFall =>
      exact .inr (.inr (.inr (.inr (.inr (.inr (.inr (.inr (.inl
        ⟨rfl, by simp only [exec, execSyncInputFall, loading]; rfl⟩))))))))
    | selectionStart p =>
      by_cases clocked : p = .maintenance
      · rw [clocked]
        exact .inl rfl
      · refine .inr (.inr (.inr (.inr (.inr (.inr (.inr (.inr (.inr ⟨p, clocked, .inl ⟨rfl, ?_⟩⟩))))))))
        rw [exec, execSelectionStart, isClocked_of_ne clocked, if_neg (by decide), if_pos loading]
    | selectRelease p =>
      by_cases clocked : p = .maintenance
      · rw [clocked]
        exact .inl rfl
      · refine .inr (.inr (.inr (.inr (.inr (.inr (.inr (.inr (.inr ⟨p, clocked, .inr ⟨rfl, ?_⟩⟩))))))))
        rw [exec, execSelectRelease, isClocked_of_ne clocked, if_neg (by decide), if_pos loading]
    | storeSaveEnd memory => exact .inl (by rw [exec, execStoreSaveEnd, if_neg (by rw [notSaving]; nofun)])
    | storeSaveTimeout => exact .inl (by rw [exec, execStoreSaveTimeout, if_neg (by rw [notSaving]; nofun)])
    | _ =>
      first
      | exact .inl (congrArg Host.Outcome.next (event_waits loading _))
      | cases request

/-! ## The core about to be lit -/

/-- The test that a selection starts is on a core it takes for eligible (R137). -/
theorem selected_flight {elig : CoreId → Bool} {now : Clock} {u : CableUnit} {f : Flight} (idle : u.flight = none)
    (started : (u.selected elig now).flight = some f) : elig f.core = true := by
  unfold CableUnit.selected at started
  split at started
  · rw [idle] at started; cases started
  · split at started
    · next c source picked =>
      rw [← Option.some.inj started]
      exact pick_eligible picked
    · exact absurd (idle.symm.trans started) nofun

/-- A selection leaves every cable record alone (R137, R138). -/
theorem selected_records (elig : CoreId → Bool) (now : Clock) (u : CableUnit) :
    (u.selected elig now).records = u.records := by
  unfold CableUnit.selected
  split
  · rfl
  · split <;> rfl

/-- Notices for cores none of which is under test change nothing (R141). -/
theorem notices_idle {elig : CoreId → Bool} (cores : List CoreId) {s : State}
    (apart : ∀ f, s.cable.flight = some f → f.core ∉ cores) : cores.foldl (State.notice elig) s = s := by
  induction cores with
  | nil => rfl
  | cons c rest ih =>
    have alone : s.notice elig c = s := by
      unfold State.notice
      split
      · next f flying =>
        exact if_neg fun (same : f.core = c) => apart f flying (by rw [same]; exact List.mem_cons_self ..)
      · rfl
    rw [List.foldl_cons, alone]
    exact ih fun f flying mem => apart f flying (List.mem_cons_of_mem c mem)

/-- Among notices the one for the core under test aborts the test, and the test that its selection starts is on none of the
cores noticed (R7, R141). -/
theorem notices_abort {elig : CoreId → Bool} {f : Flight} (cores : List CoreId) {s : State}
    (flying : s.cable.flight = some f) (noticed : f.core ∈ cores) (left : ∀ c ∈ cores, elig c = false) :
    cores.foldl (State.notice elig) s = (s.abortFlight .toHead f).selectWith elig := by
  induction cores with
  | nil => cases noticed
  | cons c rest ih =>
    rw [List.foldl_cons, State.notice, flying]
    dsimp only
    split
    · refine notices_idle rest fun f' started mem => ?_
      have given := selected_flight (u := (s.abortFlight .toHead f).cable) (by rw [abortFlight_eq]) started
      rw [left f'.core (List.mem_cons_of_mem c mem)] at given
      cases given
    · next other =>
      have later : f.core ∈ rest := (List.mem_cons.mp noticed).resolve_left other
      exact ih later fun d mem => left d (List.mem_cons_of_mem c mem)

/-- What presenting the outputs makes of a test on a core that is about to be lit (R7, R141): it is aborted, and the test
that the selection starts is on another core. -/
theorem present_cable_of_lit {s : State} {f : Flight} (flying : s.cable.flight = some f) (off : s.command f.core = .off)
    (lit : s.wantedCommand f.core ≠ .off) : ∃ elig : CoreId → Bool, elig f.core = false ∧
      s.present.cable = ((s.abortFlight .toHead f).selectWith elig).cable := by
  refine ⟨fun c => s.eligible c && s.wantedOutputs[c].command == .off, ?_, ?_⟩
  · show (s.eligible f.core && s.wantedOutputs[f.core].command == .off) = false
    rw [wantedOutputs_getElem, beq_false_of_ne lit, Bool.and_false]
  · rw [present_cable, State.notified, notices_abort _ flying]
    · rw [List.mem_filter, wantedOutputs_getElem]
      refine ⟨List.mem_finRange _, ?_⟩
      rw [show s.engine.aspects[f.core].command = .off from off]
      exact Bool.and_eq_true_iff.mpr ⟨rfl, by simpa using lit⟩
    · intro c mem
      have energised := (List.mem_filter.mp mem).2
      have lit := (Bool.and_eq_true_iff.mp energised).2
      rw [Bool.not_eq_true'] at lit
      rw [lit, Bool.and_false]

/-- Settles O6: of the notices of an event the one for the core under test aborts its test, and no selection after it takes a
core that is about to be lit. -/
theorem lightingACoreEndsItsTest : Obligations.LightingACoreEndsItsTest := by
  intro s f flying off lit
  obtain ⟨elig, barred, cable⟩ := present_cable_of_lit flying off lit
  have records : s.present.cable.records = change s.cable.records f.core (CableRecord.interrupt s.nowSec) := by
    rw [cable, selectWith_eq]
    show (CableUnit.selected _ _ _).records = _
    rw [selected_records, abortFlight_eq]
  have record : s.present.cable.records[f.core] = CableRecord.interrupt s.nowSec s.cable.records[f.core] := by
    rw [records, change_getElem, if_pos rfl]
  refine ⟨by rw [record]; rfl, by rw [record]; rfl, fun f' started same => ?_⟩
  rw [cable] at started
  have given := selected_flight (u := (s.abortFlight .toHead f).cable) (by rw [abortFlight_eq]) started
  rw [same, barred] at given
  cases given

end Sys2Proof.Machine
end

section
/-! Changes of the conflict relation: the revalidation (R47), WRITE_CONFLICTS (R43) and WRITE_GROUP (R13 to R15, R48). -/

namespace Sys2Proof.Machine

/-! ## Served requests -/

section
variable {code : Nat} {p : Port} {s t : State} {body : State → State × Answer}

theorem serve_refused {status : Status} (ready : s.loading = false) (right : permitted code p = true)
    (refused : body s = refuse status s) : serve code p s body = s.refusedWith p code status := by
  rw [serve_permitted ready right, refused, respond_refuse]

theorem serve_ok (ready : s.loading = false) (right : permitted code p = true) (taken : body s = okay t) :
    serve code p s body = t.ok p code [] := by
  rw [serve_permitted ready right, taken, respond_okay]

theorem serve_okWith {payload : List Byte} (ready : s.loading = false) (right : permitted code p = true)
    (taken : body s = okWith payload t) : serve code p s body = t.ok p code payload := by
  rw [serve_permitted ready right, taken, respond_okWith]

end

/-- The response that an answer of OK leaves on its port. -/
theorem ok_response (p : Port) (code : Nat) (payload : List Byte) (s : State) :
    ((s.ok p code payload).ports.at p).response =
      some { code := BitVec.ofNat 8 code, status := .ok, overrun := (s.ports.at p).overrun, payload := payload } := by
  rw [State.ok, State.respond_ports, PerPort.at_put_self]
  rfl

/-! ## Conflicts -/

theorem conflictFree_of_same {s t : State} (same : t.conflict = s.conflict) : t.conflictFree = s.conflictFree := by
  funext set
  rw [State.conflictFree, State.conflictFree, same]

theorem planConflictFree_of_same {s t : State} (same : t.conflict = s.conflict) :
    t.planConflictFree = s.planConflictFree := by
  funext plan
  rw [State.planConflictFree, State.planConflictFree, conflictFree_of_same same]

theorem inhibitedNow_iff {s : State} {g : GroupId} :
    s.inhibitedNow g = true ↔ ∃ i : GroupId, s.conflict i g = true ∧ s.engine.groups[i].redLost = true := by
  simp [State.inhibitedNow, allGroups]

/-! ## Revalidation -/

/-- The sequencer as a revalidation leaves it (R47). -/
def Sequencer.revalidated (plans : List PlanId) (entries : List EntryId) (q : Sequencer) : Sequencer :=
  { q with
    plans := Vector.ofFn fun p =>
      if plans.contains p then { q.plans[p] with validity := .invalid } else q.plans[p]
    substs := Vector.ofFn fun e =>
      if entries.contains e then { q.substs[e] with enabled := false } else q.substs[e] }

theorem revalidate_eq (s : State) : s.revalidate =
    State.recomputeInhibition { s with seq := s.seq.revalidated s.plansBroken s.entriesBroken } := rfl

theorem revalidate_seq (s : State) : s.revalidate.seq = s.seq.revalidated s.plansBroken s.entriesBroken := by
  rw [revalidate_eq, recomputeInhibition_only]

theorem revalidate_type (s : State) (g : GroupId) : s.revalidate.engine.groups[g].type = s.engine.groups[g].type := by
  rw [revalidate_eq, recomputeInhibition_group]
  exact (actedGroup_keepsRed _ g).type

/-- A plan after a revalidation: a VALID one with a conflicting pair in a stage becomes INVALID (R47). -/
theorem revalidate_plan (s : State) (p : PlanId) :
    s.revalidate.seq.plans[p] =
      if s.seq.plans[p].validity = .valid ∧ s.planConflictFree s.seq.plans[p] = false then
        { s.seq.plans[p] with validity := .invalid }
      else s.seq.plans[p] := by
  have broken : s.plansBroken.contains p = true ↔
      s.seq.plans[p].validity = .valid ∧ s.planConflictFree s.seq.plans[p] = false := by
    simp [State.plansBroken]
  rw [revalidate_seq]
  show (Vector.ofFn _)[p] = _
  simp only [Fin.getElem_fin, Vector.getElem_ofFn]
  exact if_congr broken rfl rfl

/-- An entry after a revalidation: an enabled one with a conflicting pair is disabled (R47). -/
theorem revalidate_subst (s : State) (e : EntryId) :
    s.revalidate.seq.substs[e] =
      if s.seq.substs[e].enabled = true ∧ s.conflictFree s.seq.substs[e].set = false then
        { s.seq.substs[e] with enabled := false }
      else s.seq.substs[e] := by
  have broken : s.entriesBroken.contains e = true ↔
      s.seq.substs[e].enabled = true ∧ s.conflictFree s.seq.substs[e].set = false := by
    simp [State.entriesBroken]
  rw [revalidate_seq]
  show (Vector.ofFn _)[e] = _
  simp only [Fin.getElem_fin, Vector.getElem_ofFn]
  exact if_congr broken rfl rfl

/-- Outside RUN and HELD a revalidation writes the flags of inhibition alone (R57, R59). -/
theorem revalidate_group_of_stopped {s : State} (stopped : isRunning s.engine.mode = false) (g : GroupId) :
    s.revalidate.engine.groups[g] =
      { s.engine.groups[g] with
        inhibited := s.inhibitedNow g
        withheld := s.engine.groups[g].withheld ||
          (s.engine.interstage.target[g] && s.inhibitedNow g && s.engine.groups[g].state != .green &&
            s.engine.groups[g].state != .redAmber) } := by
  rw [revalidate_eq, recomputeInhibition_group, actedGroup_of_stopped (by exact stopped)]
  simp only [keptOut, Bool.not_or, Bool.and_assoc]
  rfl

/-- Which plans a revalidation makes INVALID, told from its outcome. -/
theorem plansBroken_eq (s : State) : s.plansBroken =
    (List.finRange 8).filter fun p =>
      s.seq.plans[p].validity == .valid && s.revalidate.seq.plans[p].validity == .invalid := by
  refine List.filter_congr fun p _ => ?_
  rw [revalidate_plan]
  generalize s.seq.plans[p] = plan
  cases valid : plan.validity <;> cases s.planConflictFree plan <;> simp [valid]

theorem entriesBroken_eq (s : State) : s.entriesBroken =
    (List.finRange 2).filter fun e => s.seq.substs[e].enabled && !s.revalidate.seq.substs[e].enabled := by
  refine List.filter_congr fun e _ => ?_
  rw [revalidate_subst]
  generalize s.seq.substs[e] = entry
  cases enabled : entry.enabled <;> cases s.conflictFree entry.set <;> simp [enabled]

/-! ## A change of the relation, answered -/

section
variable (p : Port) (code : Nat) (payload : List Byte) (s : State)

/-- The conflicts once a revalidation is presented and answered are those it was made under. -/
theorem revalidated_conflict : (s.revalidate.present.ok p code payload).conflict = s.conflict := by
  funext i j
  refine conflict_of_same (s := s) (t := s.revalidate.present.ok p code payload) ?_ (fun g => ?_) i j
  · simp only [State.ok, State.respond_conflicts, present_conflicts]
    rw [revalidate_only]
  · simp only [State.ok, State.respond_engine, present_engine]
    exact revalidate_type s g

theorem revalidated_group (stopped : isRunning s.engine.mode = false) (g : GroupId) :
    (s.revalidate.present.ok p code payload).engine.groups[g] =
      { s.engine.groups[g] with
        inhibited := s.inhibitedNow g
        withheld := s.engine.groups[g].withheld ||
          (s.engine.interstage.target[g] && s.inhibitedNow g && s.engine.groups[g].state != .green &&
            s.engine.groups[g].state != .redAmber) } := by
  simp only [State.ok, State.respond_engine, present_engine]
  exact revalidate_group_of_stopped stopped g

theorem revalidated_plan (k : PlanId) : (s.revalidate.present.ok p code payload).seq.plans[k] =
    if s.seq.plans[k].validity = .valid ∧
        (s.revalidate.present.ok p code payload).planConflictFree s.seq.plans[k] = false then
      { s.seq.plans[k] with validity := .invalid }
    else s.seq.plans[k] := by
  rw [planConflictFree_of_same (revalidated_conflict p code payload s)]
  simp only [State.ok, State.respond_seq, present_seq]
  exact revalidate_plan s k

theorem revalidated_subst (e : EntryId) : (s.revalidate.present.ok p code payload).seq.substs[e] =
    if s.seq.substs[e].enabled = true ∧
        (s.revalidate.present.ok p code payload).conflictFree s.seq.substs[e].set = false then
      { s.seq.substs[e] with enabled := false }
    else s.seq.substs[e] := by
  rw [conflictFree_of_same (revalidated_conflict p code payload s)]
  simp only [State.ok, State.respond_seq, present_seq]
  exact revalidate_subst s e

end

/-! ## WRITE_CONFLICTS -/

/-- What WRITE_CONFLICTS asks of a matrix: it is sound, and every intergreen covers the endings under it (R40, R41, R43). -/
def State.MatrixFits (s : State) (m : Vector GroupSet 16) : Prop :=
  ∀ i j : GroupId, m[i][i] = false ∧ m[i][j] = m[j][i] ∧
    (m[i][j] = true → s.typeOf i ≠ .unused → s.typeOf j ≠ .unused →
      s.engine.groups[i].ending + s.engine.groups[j].redAmber ≤ s.conflicts.ig i j)

theorem matrixFits_iff {s : State} {m : Vector GroupSet 16} : s.MatrixFits m ↔
    matrixSound m = true ∧ intergreensSound m s.conflicts.ig s.engine.groups = true := by
  rw [matrixSound_iff, intergreensSound_iff]
  constructor
  · intro fits
    refine ⟨fun i => ⟨(fits i i).1, fun j => (fits i j).2.1⟩, fun i j meet => ?_⟩
    simp only [conflictUnder, Bool.and_eq_true, bne_iff_ne] at meet
    exact (fits i j).2.2 meet.1.1 meet.1.2 meet.2
  · rintro ⟨sound, covered⟩ i j
    refine ⟨(sound i).1, (sound i).2 j, fun meet used used' => covered i j ?_⟩
    simp only [conflictUnder, Bool.and_eq_true, bne_iff_ne]
    exact ⟨⟨meet, used⟩, used'⟩

section
variable {s : State} {m : Vector GroupSet 16} (stopped : isStopped s.engine.mode = true) (idle : s.saving = false)
include stopped idle

theorem reqWriteConflicts_of_unfit (unfit : ¬ s.MatrixFits m) : reqWriteConflicts m s = refuse .range s := by
  rw [matrixFits_iff, not_and_or] at unfit
  unfold reqWriteConflicts
  rw [if_neg (by simp [stopped]), if_neg (by simp [idle])]
  obtain unsound | uncovered := unfit
  · rw [if_pos (by simpa using unsound)]
  · split
    · rfl
    · rw [if_pos (by simpa using uncovered)]

theorem reqWriteConflicts_of_fits (fits : s.MatrixFits m) :
    reqWriteConflicts m s =
      okWith (countedList ((s.onConflicts fun c => { c with matrix := m }).plansBroken.map fun p => p.val + 1) ++
          countedList ((s.onConflicts fun c => { c with matrix := m }).entriesBroken.map fun e => e.val + 1))
        (s.onConflicts fun c => { c with matrix := m }).revalidate.present := by
  obtain ⟨sound, covered⟩ := matrixFits_iff.mp fits
  unfold reqWriteConflicts
  rw [if_neg (by simp [stopped]), if_neg (by simp [idle]), if_neg (by simp [sound]), if_neg (by simp [covered])]

end

/-- Settles O33: the refusals in order, then the matrix written and the revalidation told from its outcome. -/
theorem writeConflictsTaken : Obligations.WriteConflictsTaken := by
  intro s m ready
  refine ⟨fun running => ?_, fun stopped saving => ?_, fun stopped idle => ⟨fun unfit => ?_, fun fits => ?_⟩⟩
  · exact congrArg Host.Outcome.next (serve_refused ready rfl (by simp [reqWriteConflicts, running]))
  · exact congrArg Host.Outcome.next (serve_refused ready rfl (by simp [reqWriteConflicts, stopped, saving]))
  · refine congrArg Host.Outcome.next (serve_refused ready rfl (reqWriteConflicts_of_unfit stopped idle fun fits => ?_))
    obtain ⟨i, j, diagonal | asymmetric | ⟨meet, used, used', short⟩⟩ := unfit
    · rw [(fits i j).1] at diagonal
      cases diagonal
    · exact asymmetric (fits i j).2.1
    · exact ((fits i j).2.2 meet used used').not_gt short
  · refine ⟨_, congrArg Host.Outcome.next (serve_okWith ready rfl (reqWriteConflicts_of_fits stopped idle fits)), ?_⟩
    obtain ⟨t, written⟩ : ∃ t, t = s.onConflicts fun c => { c with matrix := m } := ⟨_, rfl⟩
    have engine : t.engine = s.engine := by rw [written]; rfl
    have seq : t.seq = s.seq := by rw [written]; rfl
    rw [← written, ← engine, ← seq, plansBroken_eq, entriesBroken_eq]
    have stays : isRunning t.engine.mode = false := by rw [engine]; exact isRunning_of_stopped stopped
    refine ⟨?_, revalidated_plan _ _ _ t, revalidated_subst _ _ _ t, ?_, fun g => ⟨?_, fun target => ?_, ?_⟩, ?_, ?_, ?_,
      ?_, ?_, ?_⟩
    · simp only [State.ok, State.respond_conflicts, present_conflicts]
      rw [revalidate_only, written]
      rfl
    · rw [ok_response]
      simp only [State.ok, State.respond_seq, present_seq]
      rfl
    · rw [revalidated_group _ _ _ t stays]
    · rw [revalidated_group _ _ _ t stays, target]
      simp [noGroups]
    · rw [revalidated_conflict, revalidated_group _ _ _ t stays]
      exact inhibitedNow_iff
    · simp only [State.ok, State.respond_seq, present_seq]
      rw [revalidate_seq]
      rfl
    all_goals
      simp only [State.ok, State.respond_lamps, State.respond_faults, State.respond_history, State.respond_quals,
        State.respond_store, present_lamps, present_faults, present_history, present_quals, present_store]
      rw [revalidate_only, written]
      rfl

end Sys2Proof.Machine
end

section
/-! WRITE_GROUP (R13 to R15, R48): its refusals in order, the timings replaced alone, and a change of type with the
revalidation that follows. -/

namespace Sys2Proof.Machine

theorem mem_groupTypes (t : GroupType) : t ∈ groupTypes := by cases t <;> decide

theorem valueOf_of_length_le {α : Type} {values : List α} {n : Nat} (past : values.length ≤ n) : valueOf values n = none :=
  List.getElem?_eq_none past

section
variable {s : State} {mg ra am cl mr : Nat} (stopped : isStopped s.engine.mode = true) (idle : s.saving = false)
include stopped idle

/-- WRITE_GROUP for a group and a type that there are (R13 to R15). -/
theorem reqWriteGroup_named (g : GroupId) (t : GroupType) :
    reqWriteGroup (g.val + 1) (codeOf groupTypes t) mg ra am cl mr s =
      if timingsInRange t mg ra am cl mr && s.typeAllowed g t &&
          s.groupCovered g (s.engine.groups[g].rewrite t mg ra am cl mr) then
        okay (s.writeGroup g (s.engine.groups[g].rewrite t mg ra am cl mr)).present
      else refuse .range s := by
  unfold reqWriteGroup
  rw [if_neg (by simp [stopped]), if_neg (by simp [idle]), groupNumber, numbered_val_add_one,
    valueOf_codeOf (mem_groupTypes t)]

/-- WRITE_GROUP for a group or a type that there is not (R13). -/
theorem reqWriteGroup_unnamed {n ty : Nat} (unnamed : ¬ (1 ≤ n ∧ n ≤ 16) ∨ 4 ≤ ty) :
    reqWriteGroup n ty mg ra am cl mr s = refuse .range s := by
  unfold reqWriteGroup
  rw [if_neg (by simp [stopped]), if_neg (by simp [idle])]
  obtain outside | past := unnamed
  · rw [groupNumber, numbered_of_outside (by omega)]
  · rw [valueOf_of_length_le past]
    split
    · contradiction
    · rfl

end

/-- Settles O17: the mode, the save, and then every test of R13 to R15 that fails. -/
theorem writeGroupRefusals : Obligations.WriteGroupRefusals := by
  intro s n ty mg ra am cl mr ready
  refine ⟨fun running => ?_, fun stopped saving => ?_, fun stopped idle outside => ?_⟩
  · exact congrArg Host.Outcome.next (serve_refused ready rfl (by simp [reqWriteGroup, running]))
  · exact congrArg Host.Outcome.next (serve_refused ready rfl (by simp [reqWriteGroup, stopped, saving]))
  · refine congrArg Host.Outcome.next (serve_refused ready rfl ?_)
    obtain unnamed | past | ⟨g, t, rfl, rfl, fails⟩ := outside
    · exact reqWriteGroup_unnamed stopped idle (.inl unnamed)
    · exact reqWriteGroup_unnamed stopped idle (.inr past)
    · rw [reqWriteGroup_named stopped idle, if_neg]
      rw [Bool.and_eq_true, Bool.and_eq_true]
      rintro ⟨⟨inRange, allowed⟩, covered⟩
      obtain bad | bad | bad := fails
      · rw [inRange] at bad; cases bad
      · rw [allowed] at bad; cases bad
      · rw [covered] at bad; cases bad

theorem exec_writeGroup_taken {s : State} {g : GroupId} {t : GroupType} {mg ra am cl mr : Nat} (ready : s.loading = false)
    (stopped : isStopped s.engine.mode = true) (idle : s.saving = false)
    (inRange : timingsInRange t mg ra am cl mr = true) (allowed : s.typeAllowed g t = true)
    (covered : s.groupCovered g (s.engine.groups[g].rewrite t mg ra am cl mr) = true) :
    exec (.writeGroup (g.val + 1) (codeOf groupTypes t) mg ra am cl mr) s =
      .next (State.ok .plan 1 [] (s.writeGroup g (s.engine.groups[g].rewrite t mg ra am cl mr)).present) := by
  refine congrArg Host.Outcome.next (serve_ok ready rfl ?_)
  rw [reqWriteGroup_named stopped idle, inRange, allowed, covered]
  rfl

/-- Settles O15. -/
theorem writeGroupTakesTimings : Obligations.WriteGroupTakesTimings := by
  intro s g t mg ra am cl mr ready stopped idle type inRange covered
  rw [exec_writeGroup_taken ready stopped idle inRange (by simp [State.typeAllowed, type]) covered, State.writeGroup,
    if_pos (by exact type.symm)]
  have kept : s.engine.groups[g].rewrite t mg ra am cl mr =
      { s.engine.groups[g] with minGreen := mg, redAmber := ra, amber := am, clearance := cl, minRed := mr } := by
    rw [← type]
    rfl
  rw [kept]
  rfl

/-! ## A change of type -/

/-- The state after a change of type, before the revalidation (R13). -/
def State.retyped (g : GroupId) (r : Group) (s : State) : State :=
  { s with
    engine := { s.engine with groups := put s.engine.groups g (r.retype s.engine.mode) }
    lamps := { s.lamps with
      lamps := change s.lamps.lamps (coreOf g .R) fun l => { l with redLossDeclared := false } }
    faults := s.faults.clear .redLost (.group g) }

theorem writeGroup_of_changed {s : State} {g : GroupId} {r : Group} (changed : r.type ≠ s.typeOf g) :
    s.writeGroup g r = (s.retyped g r).revalidate := by
  rw [State.writeGroup, if_neg changed]
  rfl

/-- A record with its type and timings written and its running fields cleared (R13). -/
theorem retype_rewrite (mode : Mode) (t : GroupType) (mg ra am cl mr : Nat) (r : Group) :
    (r.rewrite t mg ra am cl mr).retype mode =
      { r with
        type := t
        minGreen := mg
        redAmber := ra
        amber := am
        clearance := cl
        minRed := mr
        state := if mode = .flash then flashState t else r.state
        timeInState := if mode = .flash ∧ flashState t ≠ r.state then 0 else r.timeInState
        cutShort := r.cutShort && !decide (mode = .flash ∧ flashState t ≠ r.state)
        redLost := false
        withheld := false } := by
  unfold Group.retype Group.rewrite Group.setTo
  by_cases flash : mode = .flash
  · by_cases same : r.state = flashState t
    · simp [flash, same]
    · simp [flash, same, Ne.symm same]
  · simp [flash]

theorem FaultRecord.cleared_inactive {r c : FaultRecord} (left : r.cleared = some c) : c.state = .inactive := by
  unfold FaultRecord.cleared at left
  split at left
  · rw [← Option.some.inj left]
  · cases left
  · next state => rw [← Option.some.inj left]; exact state

/-- After a clear no record of the key is ACTIVE (R158). -/
theorem clear_inactive {t : FaultTable} {k : FaultKind} {x : Subject} {r : FaultRecord}
    (held : r ∈ (t.clear k x).records) (kind : r.kind = k) (subject : r.subject = x) : r.state = .inactive := by
  rw [clear_records] at held
  obtain ⟨before, -, left⟩ := List.mem_filterMap.mp held
  split at left
  · exact FaultRecord.cleared_inactive left
  · next other =>
    rw [Option.some.inj left] at other
    exact absurd (by simp [FaultRecord.hasKey, kind, subject]) other

theorem retyped_group (g : GroupId) (r : Group) (s : State) (h : GroupId) :
    (s.retyped g r).engine.groups[h] = if h = g then r.retype s.engine.mode else s.engine.groups[h] :=
  put_getElem _ _ _ _

theorem revalidated_lamps (p : Port) (code : Nat) (payload : List Byte) (s : State) :
    (s.revalidate.present.ok p code payload).lamps = s.lamps := by
  simp only [State.ok, State.respond_lamps, present_lamps]
  rw [revalidate_only]

theorem retyped_lamp (g : GroupId) (r : Group) (s : State) :
    (s.retyped g r).lamps.lamps[coreOf g .R] = { s.lamps.lamps[coreOf g .R] with redLossDeclared := false } :=
  (change_getElem _ _ _ _).trans (if_pos rfl)

/-- Settles O16: the record and the declared red loss written, then what the revalidation makes of the plans, the entries
and the flags. -/
theorem writeGroupChangesType : Obligations.WriteGroupChangesType := by
  intro s g t mg ra am cl mr ready stopped idle type inRange allowed covered target
  refine ⟨_, exec_writeGroup_taken ready stopped idle inRange allowed covered, ?_⟩
  rw [writeGroup_of_changed (Ne.symm type)]
  obtain ⟨u, written⟩ : ∃ u, u = s.retyped g (s.engine.groups[g].rewrite t mg ra am cl mr) := ⟨_, rfl⟩
  have seq : u.seq = s.seq := by rw [written]; rfl
  have stays : isRunning u.engine.mode = false := by rw [written]; exact isRunning_of_stopped stopped
  have empty : u.engine.interstage.target = noGroups := by rw [written]; exact target
  have own : u.engine.groups[g] = (s.engine.groups[g].rewrite t mg ra am cl mr).retype s.engine.mode := by
    rw [written, retyped_group, if_pos rfl]
  have others : ∀ h : GroupId, h ≠ g → u.engine.groups[h] = s.engine.groups[h] := fun h other => by
    rw [written, retyped_group, if_neg other]
  have group : ∀ h : GroupId, (u.revalidate.present.ok .plan 1 []).engine.groups[h] =
      { u.engine.groups[h] with inhibited := u.inhibitedNow h } := fun h => by
    rw [revalidated_group _ _ _ u stays, empty]
    simp [noGroups]
  rw [← written, ← seq]
  refine ⟨?_, fun h => ?_, ?_, fun r held kind subject => ?_, fun h other => ?_, revalidated_plan _ _ _ u,
    revalidated_subst _ _ _ u, ?_, ?_, ?_, ?_, ?_, ?_, ?_⟩
  · rw [group, own, retype_rewrite]
  · rw [group, revalidated_conflict]
    refine inhibitedNow_iff.trans (exists_congr fun i => and_congr_right fun _ => ?_)
    rw [group]
  · rw [revalidated_lamps, written, retyped_lamp]
  · simp only [State.ok, State.respond_faults, present_faults] at held
    rw [revalidate_only, written] at held
    exact clear_inactive held kind subject
  · rw [group, others h other]
  · simp only [State.ok, State.respond_engine, present_engine]
    rw [revalidate_only, written]
    rfl
  · simp only [State.ok, State.respond_conflicts, present_conflicts]
    rw [revalidate_only, written]
    rfl
  · simp only [State.ok, State.respond_quals, present_quals]
    rw [revalidate_only, written]
    rfl
  · simp only [State.ok, State.respond_history, present_history]
    rw [revalidate_only, written]
    rfl
  · simp only [State.ok, State.respond_store, present_store]
    rw [revalidate_only, written]
    rfl
  · simp only [State.ok, State.respond_seq, present_seq]
    rw [revalidate_seq]
    rfl
  · rw [ok_response]
    rfl

end Sys2Proof.Machine
end

section
/-! The modes and their timed ends: timed exits (R8 to R12), the phases of START (R24), the entries to FLASH and SUPPLY_OFF
(R26 to R29) and WRITE_START_TIMES (R25). -/

namespace Sys2Proof.Machine

/-- An event's next state once the image is loaded. -/
theorem next_event {s : State} {f : State → State} (ready : s.loading = false) :
    (.next (event s f) : Host.Outcome State Fault Refusal) = .next (f s) :=
  congrArg Host.Outcome.next (event_taken ready)

/-! ## Timed exits -/

theorem timedExit_running {s : State} (running : isRunning s.engine.mode = true) (g : GroupId) :
    s.timedExit g =
      State.present { s with engine.groups := put s.engine.groups g (s.engine.groups[g].timedExit s.engine.clock) } :=
  if_pos running

theorem timedExit_redAmber {g : Group} (now : Clock) (state : g.state = .redAmber) (due : g.redAmber ≤ g.timeInState) :
    g.timedExit now = g.enterGreen now := by
  rw [Group.timedExit, state]
  exact if_pos due

theorem timedExit_amber {g : Group} (now : Clock) (state : g.state = .amber) (due : g.amber ≤ g.timeInState) :
    g.timedExit now = g.enterRed := by
  rw [Group.timedExit, state]
  exact if_pos due

theorem timedExit_clearance {g : Group} (now : Clock) (state : g.state = .clearance) (due : g.clearance ≤ g.timeInState) :
    g.timedExit now = g.enterRed := by
  rw [Group.timedExit, state]
  exact if_pos due

/-- Settles O21: each exit is the group's own transition, put in its place. -/
theorem timedExits : Obligations.TimedExits := by
  intro s g ready running
  have exits : exec (.timedStateExit g) s = .next (State.present
      { s with engine.groups := put s.engine.groups g (s.engine.groups[g].timedExit s.engine.clock) }) :=
    (next_event ready).trans (congrArg Host.Outcome.next (timedExit_running running g))
  refine ⟨fun state due => ?_, fun state due => ?_, fun state due => ?_⟩
  · rw [exits, timedExit_redAmber _ state due]
    rfl
  · rw [exits, timedExit_amber _ state due]
    rfl
  · rw [exits, timedExit_clearance _ state due]
    rfl

/-! ## The phases of START -/

theorem allRedState_eq (type : GroupType) : allRedState type = if type = .unused then .dark else .red := by
  cases type <;> rfl

/-- A group set to a state, with all that moves named. -/
theorem setTo_eq (state : GroupState) (g : Group) :
    g.setTo state =
      { g with
        state := state
        timeInState := if state = g.state then g.timeInState else 0
        cutShort := g.cutShort && decide (state = g.state) } := by
  unfold Group.setTo
  by_cases same : g.state = state
  · rw [if_pos same, if_pos same.symm, decide_eq_true same.symm, Bool.and_true, ← same]
  · rw [if_neg same, if_neg (Ne.symm same), decide_eq_false (Ne.symm same), Bool.and_false]

/-- Settles O22: the end of the flash phase is the beginning of the all-red phase. -/
theorem flashPhaseEnds : Obligations.FlashPhaseEnds := by
  intro s ready start phase run
  have run_out : s.engine.flashPhaseOver = true := flashPhaseOver_iff.mpr ⟨start, phase, run⟩
  have taken : exec .flashPhaseEnd s = .next (s.onEngine Engine.beginAllRed).present :=
    (next_event ready).trans (congrArg Host.Outcome.next (if_pos run_out))
  refine ⟨_, taken, ?_⟩
  have groups : ∀ g : GroupId, (s.onEngine Engine.beginAllRed).present.engine.groups[g] =
      { s.engine.groups[g].setTo (allRedState s.engine.groups[g].type) with lastGreenEnd := s.engine.clock } := fun g => by
    rw [present_engine]
    exact beginAllRed_group s.engine g
  refine ⟨by rw [present_engine]; rfl, by rw [present_engine]; rfl, by rw [present_engine]; exact start, fun g => ?_,
    by simp, by simp, by simp, by simp, by simp, by simp, by simp, by simp⟩
  rw [groups, ← allRedState_eq]
  exact ⟨rfl, setTo_type _ _, setTo_state _ _⟩

/-! ## WRITE_START_TIMES -/

theorem isStopped_eq_false_iff {m : Mode} : isStopped m = false ↔ m = .start ∨ m = .run ∨ m = .held := by
  cases m <;> decide

/-- Settles O26: the three refusals in order, then the two times written. -/
theorem startTimesWritten : Obligations.StartTimesWritten := by
  intro s a b ready
  refine congrArg Host.Outcome.next ?_
  by_cases stopped : isStopped s.engine.mode = true
  · rw [if_neg fun mode => by rw [isStopped_eq_false_iff.mpr mode] at stopped; cases stopped]
    by_cases saving : s.saving = true
    · rw [if_pos saving]
      exact serve_refused ready rfl (by simp [reqWriteStartTimes, stopped, saving])
    · rw [if_neg saving]
      by_cases range : 600 < a ∨ b < 30 ∨ 300 < b
      · rw [if_pos range]
        refine serve_refused ready rfl ?_
        have wrong : (within 0 600 a && within 30 300 b) = false := by simp [within]; omega
        simp [reqWriteStartTimes, stopped, saving, wrong]
      · rw [if_neg range]
        refine serve_ok ready rfl ?_
        have right : (within 0 600 a && within 30 300 b) = true := by simp [within]; omega
        simp [reqWriteStartTimes, stopped, saving, right, State.onEngine]
  · rw [if_pos (isStopped_eq_false_iff.mp (Bool.eq_false_iff.mpr stopped))]
    exact serve_refused ready rfl (by simp [reqWriteStartTimes, stopped])

/-! ## The entries to FLASH and SUPPLY_OFF -/

/-- A group at a safe entry, with all that moves named (R11, R28). -/
theorem group_safeEntry_eq (now : Clock) (flash : Bool) (g : Group) :
    g.safeEntry now flash =
      { g with
        state := if flash then flashState g.type else .dark
        timeInState := if (if flash then flashState g.type else .dark) = g.state then g.timeInState else 0
        cutShort := g.cutShort && decide ((if flash then flashState g.type else .dark) = g.state)
        lastGreenEnd := if g.state = .green ∨ g.state = .clearance then now else g.lastGreenEnd } := by
  unfold Group.safeEntry
  dsimp only
  by_cases ends : g.state = .green ∨ g.state = .clearance
  · rw [if_pos ends, if_pos ends, setTo_eq]
  · rw [if_neg ends, if_neg ends, setTo_eq]

/-- A safe entry does all that R28 lays down. -/
theorem safeEntry_entered (flash : Bool) (s : State) : SafeEntered flash s (s.safeEntry flash) := by
  rw [safeEntry_eq]
  have groups : ∀ g : GroupId, (s.safeMoved flash).present.engine.groups[g] =
      s.engine.groups[g].safeEntry s.engine.clock flash := fun g => by
    rw [present_engine]
    exact mapBank_getElem _ _ g
  refine
    { mode := by rw [present_engine]; rfl
      phase := by rw [present_engine]; rfl
      group := fun g => ?_
      interstage := by rw [present_engine]; exact ⟨rfl, rfl⟩
      slot := by rw [present_engine]; rfl
      hold := by rw [present_engine]; rfl
      lines := by rw [present_engine]; exact ⟨rfl, rfl⟩
      clock := by rw [present_engine, present_uptimeMs]; exact ⟨rfl, rfl⟩
      sequence := by rw [present_seq]; exact ⟨rfl, rfl, rfl, rfl, rfl, rfl, rfl, rfl⟩
      plan := by rw [present_seq]; exact ⟨rfl, rfl⟩
      kept := ?_
      entry := by rw [present_history, present_seq, present_engine]; rfl }
  · rw [groups, group_safeEntry_eq]
    exact ⟨rfl, rfl, rfl, rfl, rfl, rfl⟩
  · simp only [present_seq, present_conflicts, present_lamps, present_quals, present_store]
    exact ⟨rfl, rfl, rfl, rfl, rfl, rfl, rfl⟩

namespace SafeEntered
variable {flash : Bool} {s u : State}

/-- A fault raised before the entry does not show in it. -/
theorem of_raise {k : FaultKind} {x : Subject} (entered : SafeEntered flash (s.raise k x) u) : SafeEntered flash s u :=
  ⟨entered.mode, entered.phase, entered.group, entered.interstage, entered.slot, entered.hold, entered.lines,
    entered.clock, entered.sequence, entered.plan, entered.kept, entered.entry⟩

/-- A message taken before the entry does not show in it. -/
theorem of_taking {m : Instr} (entered : SafeEntered flash (s.taking m) u) : SafeEntered flash s u :=
  ⟨entered.mode, entered.phase, entered.group, entered.interstage, entered.slot, entered.hold, entered.lines,
    entered.clock, entered.sequence, entered.plan, entered.kept, entered.entry⟩

/-- The answer to the request that made the entry leaves it as it is. -/
theorem answered (entered : SafeEntered flash s u) (p : Port) (code : Nat) (payload : List Byte) :
    SafeEntered flash s (u.ok p code payload) :=
  ⟨entered.mode, entered.phase, entered.group, entered.interstage, entered.slot, entered.hold, entered.lines,
    entered.clock, entered.sequence, entered.plan, entered.kept, entered.entry⟩

end SafeEntered

/-- A raise into a table with room leaves an ACTIVE record of its key (R157). -/
theorem raise_active {t : FaultTable} (room : t.records.length < 32) (k : FaultKind) (x : Subject) (now : Clock) :
    ∃ r ∈ (t.raise k x now).records, r.kind = k ∧ r.state = .active := by
  unfold FaultTable.raise
  split
  · next found =>
    obtain ⟨r, member, key⟩ := List.any_eq_true.mp found
    refine ⟨r.raised now, List.mem_map.mpr ⟨r, member, if_pos key⟩, ?_, ?_⟩
    · exact (congrArg Prod.fst (FaultRecord.raised_key now r)).trans (FaultRecord.hasKey_iff.mp key).1
    · unfold FaultRecord.raised
      split
      · next active => exact active
      · rfl
  · exact ⟨FaultRecord.new k x now, by simp [FaultTable.make], rfl, rfl⟩

/-- A clear leaves the records of other kinds. -/
theorem clear_other {t : FaultTable} {k : FaultKind} {x : Subject} {r : FaultRecord} (other : r.kind ≠ k) :
    r ∈ (t.clear k x).records ↔ r ∈ t.records := by
  have unkeyed : FaultRecord.hasKey k x r = false := Bool.eq_false_iff.mpr fun key => other (FaultRecord.hasKey_iff.mp key).1
  rw [clear_records, List.mem_filterMap]
  constructor
  · rintro ⟨q, member, left⟩
    split at left
    · next key =>
      have same := FaultRecord.cleared_key left
      exact absurd ((congrArg Prod.fst same).trans (FaultRecord.hasKey_iff.mp key).1) other
    · exact Option.some.inj left ▸ member
  · exact fun member => ⟨r, member, by rw [unkeyed]; rfl⟩

/-- The contactor's line set leaves the records of other kinds than CONTACTOR. -/
theorem faultsAfter_other {t : FaultTable} {r : FaultRecord} (other : r.kind ≠ .contactor) (feedback before closed : Bool) :
    r ∈ (faultsAfter feedback before closed t).records ↔ r ∈ t.records := by
  unfold faultsAfter
  split
  · exact clear_other other
  · rfl

/-- FORCED raised before a safe entry stands ACTIVE after it (R26, R27). -/
theorem safeEntry_forced (flash : Bool) {s : State} (room : s.faults.records.length < 32) :
    ∃ r ∈ ((s.raise .forced .none).safeEntry flash).faults.records, r.kind = .forced ∧ r.state = .active := by
  obtain ⟨r, member, kind, active⟩ := raise_active room .forced .none s.nowSec
  refine ⟨r, ?_, kind, active⟩
  rw [safeEntry_eq, present_faults]
  exact (faultsAfter_other (by rw [kind]; decide) _ _ _).mpr member

theorem enterFlash_of_service {s : State} (mode : s.engine.mode = .start ∨ s.engine.mode = .run ∨ s.engine.mode = .held) :
    s.enterFlash = s.safeEntry true := by
  unfold State.enterFlash
  rcases mode with mode | mode | mode <;> rw [mode]

theorem enterFlash_of_stopped {s : State} (mode : s.engine.mode = .dark ∨ s.engine.mode = .supplyOff ∨ s.engine.mode = .flash) :
    s.enterFlash = s := by
  unfold State.enterFlash
  rcases mode with mode | mode | mode <;> rw [mode]

theorem exec_forceFlash {s : State} (ready : s.loading = false) (supplied : isSupplied s.engine.mode = true) :
    exec .forceFlash s = .next (((s.raise .forced .none).enterFlash).ok .monitor 5 []) :=
  congrArg Host.Outcome.next (serve_ok ready rfl (by simp [reqForceFlash, supplied]))

theorem exec_forceOff {s : State} (ready : s.loading = false) :
    exec .forceOff s = .next (((s.raise .forced .none).enterSupplyOff true).ok .monitor 6 []) :=
  congrArg Host.Outcome.next (serve_ok ready rfl rfl)

section
variable {s : State} (ready : s.loading = false)
include ready

theorem exec_forceFlash_entered (mode : s.engine.mode = .start ∨ s.engine.mode = .run ∨ s.engine.mode = .held) :
    exec .forceFlash s = .next (((s.raise .forced .none).safeEntry true).ok .monitor 5 []) := by
  rw [exec_forceFlash ready (by rcases mode with mode | mode | mode <;> rw [mode] <;> rfl),
    enterFlash_of_service (by exact mode)]

theorem exec_qualifierFlash_entered (mode : s.engine.mode = .start ∨ s.engine.mode = .run ∨ s.engine.mode = .held) :
    exec .qualifierFlash s = .next ((s.taking .qualifierFlash).safeEntry true) :=
  (next_event ready).trans (congrArg Host.Outcome.next (enterFlash_of_service mode))

theorem exec_conflictObserved_entered (g : GroupId)
    (mode : s.engine.mode = .start ∨ s.engine.mode = .run ∨ s.engine.mode = .held ∨ s.engine.mode = .flash) :
    exec (.conflictObservedDeclaration g) s = .next ((s.taking (.conflictObservedDeclaration g)).safeEntry false) := by
  refine (next_event ready).trans (congrArg Host.Outcome.next ?_)
  unfold State.enterSupplyOff
  rw [State.taking_engine]
  rcases mode with mode | mode | mode | mode <;> rw [mode]

theorem exec_forceOff_entered (mode : s.engine.mode ≠ .supplyOff) :
    exec .forceOff s = .next (((s.raise .forced .none).safeEntry false).ok .monitor 6 []) := by
  rw [exec_forceOff ready]
  refine congrArg (fun t : State => Host.Outcome.next (t.ok .monitor 6 [])) ?_
  unfold State.enterSupplyOff
  rw [State.raise_engine]
  cases entered : s.engine.mode
  case supplyOff => exact absurd entered mode
  case dark => exact if_pos rfl
  all_goals rfl

end

/-- Settles O27: each cause ends in the one safe entry, whose effects are those of R28. -/
theorem safeModesEntered : Obligations.SafeModesEntered := by
  intro s g ready
  refine ⟨fun mode => ⟨?_, ?_⟩, fun mode => ?_, fun mode => ?_⟩
  · exact ⟨_, exec_forceFlash_entered ready mode, (safeEntry_entered true _).of_raise.answered _ _ _, safeEntry_forced true⟩
  · exact ⟨_, exec_qualifierFlash_entered ready mode, (safeEntry_entered true _).of_taking⟩
  · exact ⟨_, exec_conflictObserved_entered ready g mode, (safeEntry_entered false _).of_taking⟩
  · exact ⟨_, exec_forceOff_entered ready mode, (safeEntry_entered false _).of_raise.answered _ _ _,
      safeEntry_forced false⟩

/-- Settles O28: in the modes that do not enter, only the message is taken or FORCED raised. -/
theorem safeModesKept : Obligations.SafeModesKept := by
  intro s g ready
  refine ⟨fun mode => ⟨?_, ?_⟩, fun mode => ?_, fun mode => ?_, fun mode => ?_⟩
  · have unsupplied : isSupplied s.engine.mode = false := by rcases mode with mode | mode <;> rw [mode] <;> rfl
    exact congrArg Host.Outcome.next (serve_refused ready rfl (by simp [reqForceFlash, unsupplied]))
  · refine (next_event ready).trans (congrArg Host.Outcome.next ?_)
    unfold State.enterSupplyOff
    rw [State.taking_engine]
    rcases mode with mode | mode <;> rw [mode]
    exact if_neg nofun
  · rw [exec_forceFlash ready (by rw [mode]; rfl)]
    exact congrArg (fun t : State => Host.Outcome.next (t.ok .monitor 5 [])) (enterFlash_of_stopped (.inr (.inr mode)))
  · rw [exec_forceOff ready]
    refine congrArg (fun t : State => Host.Outcome.next (t.ok .monitor 6 [])) ?_
    unfold State.enterSupplyOff
    rw [State.raise_engine, mode]
  · refine (next_event ready).trans (congrArg Host.Outcome.next (enterFlash_of_stopped ?_))
    exact mode

end Sys2Proof.Machine
end

section
/-! The entry to RUN (R24), an accepted RESTART (R22, R23), and the decisecond step (R12, R51, R52). -/

namespace Sys2Proof.Machine

/-! ## The entry to RUN -/

/-- The sequencer once RUN has begun and stage 1 is requested (R24, R67, R70, R92). -/
theorem beginRun_issue (clock : Clock) (q : Sequencer) :
    (q.beginRun clock).issue 1 =
      { q with
        cycleTimer := 0
        stageIndex := 1
        running := q.form 1
        stageTimer := 0
        extensionEnd := 0
        deferred := false
        latest := { set := (q.form 1).set,
                    tag := some { plan := q.inForce, stage := 1, substituted := (q.form 1).substituted, cycleAt := 0 } }
        state := .awaiting
        sync := if q.plan.sync then { q.sync with watch := .running, watchStart := clock } else q.sync } := by
  unfold Sequencer.beginRun
  dsimp only
  split
  · next on => rw [if_pos (show q.plan.sync = true from on)]; rfl
  · next off => rw [if_neg (show ¬ q.plan.sync = true from off)]; rfl

theorem takeHold_run {s : State} (run : s.engine.mode = .run) (idle : s.engine.interstage.inFlight = false)
    (cause : HoldCause) (port : BudgetPort) : s.takeHold cause port = s.enterHeld cause port := by
  unfold State.takeHold
  rw [run]
  exact if_neg (by rw [idle]; nofun)

/-- RUN begun, before a HAND that is on takes its hold (R24). -/
def State.serviceBegun (s : State) : State :=
  { s with
    engine.startPhase := .none
    engine.mode := .run
    engine.dimOn := s.seq.plan.dim
    seq := (s.seq.beginRun s.engine.clock).issue 1
    outbox := s.outbox ++ (if s.engine.dimOn = s.seq.plan.dim then [] else [.dimChange s.seq.plan.dim]) ++
      modeNotices .run ++ [.stageRequest ((s.seq.beginRun s.engine.clock).issue 1).request]
    history := s.history.take s.nowSec (.mode (s.seq.beginRun s.engine.clock).inForce
      (s.seq.beginRun s.engine.clock).cycleTimer .run) }

theorem beginRun_eq (s : State) :
    s.beginRun = if s.engine.hand.debounced then s.serviceBegun.takeHold .panel .none else s.serviceBegun := by
  unfold State.beginRun
  simp only [setDim_eq]
  rfl

/-- The end of the all-red phase is the entry to RUN that R24 lays down. -/
theorem beginRun_runBegun {s : State} (idle : s.engine.interstage.inFlight = false) : s.beginRun = s.runBegun := by
  have timer : (s.seq.beginRun s.engine.clock).cycleTimer = 0 ∧ (s.seq.beginRun s.engine.clock).inForce = s.seq.inForce := by
    unfold Sequencer.beginRun
    dsimp only
    split <;> exact ⟨rfl, rfl⟩
  rw [beginRun_eq]
  refine ite_congr rfl (fun _ => ?_) fun _ => ?_
  · rw [takeHold_run (s := s.serviceBegun) rfl idle, enterHeld_eq]
    unfold State.serviceBegun
    rw [beginRun_issue, timer.1, timer.2, List.append_assoc _ (modeNotices .run)]
    rfl
  · unfold State.serviceBegun
    rw [beginRun_issue, timer.1, timer.2, List.append_assoc _ (modeNotices .run)]
    rfl

/-- What RUN begins with, however HAND stands (R24, R38, R70). -/
structure ServiceBegun (s u : State) : Prop where
  phase : u.engine.startPhase = .none
  mode : u.engine.mode = if s.engine.hand.debounced then .held else .run
  hold : s.engine.hand.debounced = true → u.engine.hold.cause = .panel
  groups : u.engine.groups = s.engine.groups
  clock : u.engine.clock = s.engine.clock
  dim : u.engine.dimOn = s.seq.plan.dim
  sequence : u.seq.cycleTimer = 0 ∧ u.seq.stageIndex = 1 ∧ u.seq.state = .awaiting ∧ u.seq.inForce = s.seq.inForce
  sent : Instr.stageRequest u.seq.request ∈ u.outbox ∧ u.seq.request.tag.stage = 1
  kept : u.lamps = s.lamps ∧ u.faults = s.faults ∧ u.conflicts = s.conflicts ∧ u.quals = s.quals ∧ u.ports = s.ports ∧
    u.store = s.store

theorem runBegun_serviceBegun (s : State) : ServiceBegun s s.runBegun := by
  unfold State.runBegun
  dsimp only
  by_cases hand : s.engine.hand.debounced = true
  · rw [if_pos hand]
    exact
      { phase := rfl, mode := (if_pos hand).symm, hold := fun _ => rfl, groups := rfl, clock := rfl, dim := rfl
        sequence := ⟨rfl, rfl, rfl, rfl⟩
        sent := ⟨by simp [Sequencer.request, State.heldBy], rfl⟩
        kept := ⟨rfl, rfl, rfl, rfl, rfl, rfl⟩ }
  · rw [if_neg hand]
    exact
      { phase := rfl, mode := (if_neg hand).symm, hold := fun on => absurd on hand, groups := rfl, clock := rfl, dim := rfl
        sequence := ⟨rfl, rfl, rfl, rfl⟩
        sent := ⟨by simp [Sequencer.request], rfl⟩
        kept := ⟨rfl, rfl, rfl, rfl, rfl, rfl⟩ }

/-- Settles O23: the phase's end is the entry to RUN, and the outputs follow. -/
theorem allRedPhaseEnds : Obligations.AllRedPhaseEnds := by
  intro s ready start phase run idle
  have run_out : s.engine.allRedPhaseOver = true := allRedPhaseOver_iff.mpr ⟨start, phase, run⟩
  have taken : exec .allRedPhaseEnd s = .next s.runBegun.present :=
    (next_event ready).trans (congrArg Host.Outcome.next ((if_pos run_out).trans (congrArg State.present (beginRun_runBegun idle))))
  obtain ⟨none, mode, hold, groups, -, dim, ⟨timer, index, state, plan⟩, ⟨sent, stage⟩, kept⟩ := runBegun_serviceBegun s
  refine ⟨taken, _, taken, ?_⟩
  simp only [present_engine, present_seq, present_outbox, present_lamps, present_faults, present_conflicts, present_quals,
    present_ports, present_store]
  exact ⟨none, mode, hold, groups, dim, timer, index, state, plan, List.mem_append_left _ sent, stage, kept⟩

/-! ## An accepted RESTART -/

/-- A group as START begins, with all that moves named (R11, R23). -/
theorem restarted_group (e : Engine) (g : GroupId) (state : GroupState)
    (shown : state = if e.startFlash = 0 then allRedState e.groups[g].type else flashState e.groups[g].type) :
    e.restarted.groups[g] =
      { e.groups[g] with
        state := state
        timeInState := if state = e.groups[g].state then e.groups[g].timeInState else 0
        cutShort := e.groups[g].cutShort && decide (state = e.groups[g].state)
        lastGreenEnd := if e.startFlash = 0 then e.clock else e.groups[g].lastGreenEnd
        withheld := false } := by
  have cleared : e.restarting.groups[g] = { e.groups[g] with withheld := false } := by
    rw [Engine.restarting, mapBank_getElem]
  unfold Engine.restarted
  by_cases flash : e.startFlash = 0
  · rw [if_pos flash] at shown ⊢
    rw [beginAllRed_group, cleared, setTo_eq, if_pos flash, shown]
    rfl
  · rw [if_neg flash] at shown ⊢
    rw [beginFlashPhase_group, cleared, setTo_eq, if_neg flash, shown]

/-- The phase that START begins in (R23). -/
theorem restarted_phase (e : Engine) :
    e.restarted.startPhase = if e.startFlash = 0 then .allRedPhase else .flashPhase := by
  unfold Engine.restarted
  split <;> rfl

/-- An accepted RESTART leaves the faults of other kinds, and no ACTIVE FORCED record (R23, R158). -/
theorem restartMoved_faults (s : State) :
    (∀ r : FaultRecord, r.kind ≠ .forced → r.kind ≠ .contactor →
      (r ∈ s.restartMoved.faults.records ↔ r ∈ s.faults.records)) ∧
    ∀ r ∈ s.restartMoved.faults.records, r.kind = .forced → r.subject = .none → r.state = .inactive := by
  refine ⟨fun r forced contactor => ?_, fun r member kind subject => ?_⟩
  · exact (faultsAfter_other contactor _ _ _).trans (clear_other forced)
  · exact clear_inactive ((faultsAfter_other (by rw [kind]; decide) _ _ _).mp member) kind subject

theorem exec_restart_taken {s : State} (ready : s.loading = false) (stopped : isStopped s.engine.mode = true)
    (valid : s.seq.plan.validity = .valid) (saving : s.saving = false)
    (clean : ∀ r ∈ s.faults.records, r.kind ≠ .conflictObserved ∧ (r.kind = .senseFault → r.state = .inactive)) :
    exec .restart s = .next (s.restartMoved.present.ok .monitor 3 []) := by
  rw [restartRefusals s ready, if_neg (by rw [stopped]; nofun), if_neg (by rw [valid]; nofun),
    if_neg (by rw [saving]; nofun), if_neg fun ⟨r, member, kind⟩ => (clean r member).1 kind,
    if_neg fun ⟨r, member, kind, active⟩ => (by rw [(clean r member).2 kind] at active; cases active),
    restartJunction_eq]

/-- Settles O24: what `restartMoved` lays down, read off field by field. -/
theorem restartBegins : Obligations.RestartBegins := by
  intro s ready stopped valid saving clean
  have taken := exec_restart_taken ready stopped valid saving clean
  obtain ⟨others, forced⟩ := restartMoved_faults s
  have response := ok_response .monitor 3 [] s.restartMoved.present
  refine ⟨_, taken, ?_⟩
  simp only [State.ok, State.respond_engine, State.respond_seq, State.respond_conflicts, State.respond_lamps,
    State.respond_quals, State.respond_store, State.respond_uptimeMs, State.respond_history, State.respond_faults,
    present_engine, present_seq, present_conflicts, present_lamps, present_quals, present_store, present_uptimeMs,
    present_history, present_faults]
  have engine : s.restartMoved.engine = { s.engine.restarted with
      contactorClosed := true
      contactorTimer := timerAfter s.engine.feedbackClosed s.engine.contactorClosed true s.nowMs s.engine.contactorTimer
      dimOn := false } := rfl
  rw [Engine.restarted_only] at engine
  simp only [engine]
  refine ⟨trivial, trivial, restarted_phase _, fun g => ?_, rfl, trivial, trivial, trivial, trivial, trivial, trivial,
    rfl, rfl, rfl, rfl, rfl, rfl, rfl, rfl, rfl, rfl, rfl, rfl, rfl, rfl, rfl, rfl, rfl, others, forced,
    congrArg (Option.map Response.status) response⟩
  rw [restarted_group _ g _ rfl]
  exact ⟨rfl, rfl, rfl, rfl, rfl, rfl⟩

end Sys2Proof.Machine
end

section
/-! The decisecond step (R3, R12, R24, R51, R52): the endings, the starts in ascending number, and what follows them. -/

namespace Sys2Proof.Machine

/-! ## The starts, group by group -/

/-- The state once the groups with a number up to k have been tested for a start (R12 part 4). -/
def State.startsBefore (k : Nat) (s : State) : State := (allGroups.take k).foldl State.startGroup s

theorem startsBefore_succ {k : Nat} (inside : k < 16) (s : State) :
    s.startsBefore (k + 1) = (s.startsBefore k).startGroup ⟨k, inside⟩ := by
  have place : allGroups[k]? = some (⟨k, inside⟩ : GroupId) := by simp [allGroups, inside]
  rw [State.startsBefore, List.take_add_one, place, List.foldl_append]
  rfl

theorem takeStarts_running {s : State} (running : isRunning s.engine.mode = true) : s.takeStarts = s.startsBefore 16 := by
  rw [State.startsBefore, List.take_of_length_le (by simp [allGroups])]
  exact if_pos running

/-- The starts change the groups and the tests kept for reading, nothing else. -/
theorem startsBefore_only (k : Nat) (s : State) :
    s.startsBefore k =
      { s with
        engine.groups := (s.startsBefore k).engine.groups
        engine.startTests := (s.startsBefore k).engine.startTests } := by
  unfold State.startsBefore
  induction allGroups.take k generalizing s with
  | nil => rfl
  | cons j rest ih =>
    rw [List.foldl_cons, ih (s.startGroup j), startGroup_eq]

/-- Each group's start is made in the state that the groups before it leave (R12, R52). -/
theorem startsBefore_group {k : Nat} (inside : k ≤ 16) (s : State) (g : GroupId) :
    (s.startsBefore k).engine.groups[g] =
      if g.val < k then (s.startsBefore g.val).startedGroup g else s.engine.groups[g] := by
  induction k with
  | zero => rfl
  | succ k ih =>
    rw [startsBefore_succ (by omega), startGroup_eq, put_getElem, ih (by omega)]
    by_cases here : g.val = k
    · subst here
      rw [if_pos rfl, if_pos (Nat.lt_succ_self _)]
    · rw [if_neg fun same => here (congrArg Fin.val same)]
      exact if_congr (by omega) rfl rfl

theorem startsBefore_test {k : Nat} (inside : k ≤ 16) (s : State) (g : GroupId) :
    (s.startsBefore k).engine.startTests[g] =
      if g.val < k then (s.startsBefore g.val).startTest g else s.engine.startTests[g] := by
  induction k with
  | zero => rfl
  | succ k ih =>
    rw [startsBefore_succ (by omega), startGroup_eq, put_getElem, ih (by omega)]
    by_cases here : g.val = k
    · subst here
      rw [if_pos rfl, if_pos (Nat.lt_succ_self _)]
    · rw [if_neg fun same => here (congrArg Fin.val same)]
      exact if_congr (by omega) rfl rfl

/-- A group that is in RED after its starting transition has made none (R52). -/
theorem startedGroup_red {s : State} {j : GroupId} (red : (s.startedGroup j).state = .red) :
    s.startedGroup j = s.engine.groups[j] := by
  unfold State.startedGroup at red ⊢
  split at red
  · split at red
    · exfalso
      revert red
      unfold Group.beginStart Group.enterGreen
      split <;> nofun
    · next stays => exact if_neg stays
  · split at red
    · cases red
    · next stays => exact if_neg stays
  · rfl

theorem startedGroup_type (s : State) (j : GroupId) : (s.startedGroup j).type = s.engine.groups[j].type := by
  unfold State.startedGroup
  split
  · split
    · exact beginStart_type _ _
    · rfl
  · split <;> rfl
  · rfl

theorem startsBefore_type {k : Nat} (inside : k ≤ 16) (s : State) (g : GroupId) :
    (s.startsBefore k).engine.groups[g].type = s.engine.groups[g].type := by
  induction k generalizing g with
  | zero => rfl
  | succ k ih =>
    rw [startsBefore_succ (by omega), startGroup_eq, put_getElem]
    split
    · next here => rw [startedGroup_type, here, ih (by omega)]
    · exact ih (by omega) g

/-! ## The endings -/

/-- A group one decisecond later (R12 part 2). -/
def Group.ticked (g : Group) : Group := { g with timeInState := min 65535 (g.timeInState + 1) }

/-- The record a group has after the ending that is due in a step (R12 part 3). -/
def State.endedGroup (s : State) (g : GroupId) : Group :=
  s.engine.groups[g].ticked.ending3 (s.engine.clock + 1) s.engine.interstage.target[g]

theorem takeEndings_advanced {s : State} (running : isRunning s.engine.mode = true) :
    s.advanceClock.takeEndings =
      { s with
        engine.clock := s.engine.clock + 1
        engine.groups := Vector.ofFn s.endedGroup
        uptimeMs := (s.uptimeMs / 100 + 1) * 100
        store := s.store.pass (100 - s.uptimeMs % 100) } := by
  have groups : (Vector.ofFn fun g : GroupId => (mapBank Group.ticked s.engine.groups)[g].ending3 (s.engine.clock + 1)
      s.engine.interstage.target[g]) = Vector.ofFn s.endedGroup := by
    refine congrArg Vector.ofFn (funext fun g => ?_)
    rw [mapBank_getElem]
    rfl
  rw [← groups]
  exact if_pos running

/-- A group is in RED after its ending when it was in RED, or its amber or clearance has run (R8 to R10). -/
theorem ending3_red (now : Clock) (inTarget : Bool) (g : Group) :
    (g.ending3 now inTarget).state = .red ↔
      g.state = .red ∨ g.state = .amber ∧ g.amber ≤ g.timeInState ∨
        g.state = .clearance ∧ g.clearance ≤ g.timeInState := by
  unfold Group.ending3
  cases state : g.state
  case green =>
    dsimp only
    split
    · simp only [Group.endGreen]
      split <;> simp
    · simp [state]
  case amber => dsimp only; split <;> simp_all [Group.enterRed]
  case clearance => dsimp only; split <;> simp_all [Group.enterRed]
  all_goals simp [state]

/-- Only the end of a green moves the last green end, and it does not leave RED behind (R10). -/
theorem ending3_lastGreenEnd {now : Clock} {inTarget : Bool} {g : Group} (red : (g.ending3 now inTarget).state = .red) :
    (g.ending3 now inTarget).lastGreenEnd = g.lastGreenEnd := by
  obtain state | ⟨state, due⟩ | ⟨state, due⟩ := (ending3_red now inTarget g).mp red
  · rw [Group.ending3, state]
  · rw [Group.ending3, state]
    simp only [if_pos due]
    rfl
  · rw [Group.ending3, state]
    simp only [if_pos due]
    rfl

theorem ending3_green {g : Group} (state : g.state = .green) (now : Clock) (inTarget : Bool) :
    g.ending3 now inTarget =
      if inTarget = false ∧ g.minGreen ≤ elapsed now g.greenStart then g.endGreen now else g := by
  rw [Group.ending3, state]
  simp

theorem ending3_to_red {g : Group} (state : g.state = .amber ∨ g.state = .clearance ∨ g.state = .red) (now : Clock)
    (inTarget : Bool) :
    g.ending3 now inTarget =
      if g.state = .amber ∧ g.amber ≤ g.timeInState ∨ g.state = .clearance ∧ g.clearance ≤ g.timeInState then g.enterRed
      else g := by
  rw [Group.ending3]
  rcases state with state | state | state <;> simp [state]

/-! ## The starts of a step -/

/-- The start conditions of a group that the step's endings leave in RED (R52, R60). -/
theorem startTest_holds (s : State) (j : GroupId) :
    (s.startTest j).holds = true ↔
      s.engine.groups[j].inhibited = false ∧ (s.startTest j).minRedRun = true ∧ (s.startTest j).intergreensRun = true := by
  simp [StartTest.holds, State.startTest, and_assoc]

theorem intergreensRun_iff (s : State) (j : GroupId) :
    (s.startTest j).intergreensRun = true ↔ ∀ i : GroupId, s.conflict i j = true →
      s.engine.groups[i].state = .red ∧
        s.conflicts.ig i j ≤ elapsed s.engine.clock s.engine.groups[i].lastGreenEnd + s.engine.groups[j].redAmber := by
  simp only [State.startTest, allGroups, List.all_eq_true, List.mem_finRange, forall_const, Bool.or_eq_true,
    Bool.not_eq_true', Bool.and_eq_true, beq_iff_eq, decide_eq_true_eq]
  refine forall_congr' fun i => ?_
  cases s.conflict i j <;> simp

/-- The starting transition of a group in RED (R52). -/
theorem startedGroup_of_red {s : State} {j : GroupId} (red : s.engine.groups[j].state = .red) :
    s.startedGroup j =
      if s.engine.interstage.target[j] = true ∧ (s.startTest j).holds = true then
        s.engine.groups[j].beginStart s.engine.clock
      else s.engine.groups[j] := by
  rw [State.startedGroup, red]
  simp

/-- The starting transition of a group in RED_AMBER (R8). -/
theorem startedGroup_of_redAmber {s : State} {j : GroupId} (state : s.engine.groups[j].state = .redAmber) :
    s.startedGroup j =
      if s.engine.groups[j].redAmber ≤ s.engine.groups[j].timeInState then s.engine.groups[j].enterGreen s.engine.clock
      else s.engine.groups[j] := by
  rw [State.startedGroup, state]

/-- No other state starts. -/
theorem startedGroup_of_other {s : State} {j : GroupId} (red : s.engine.groups[j].state ≠ .red)
    (redAmber : s.engine.groups[j].state ≠ .redAmber) : s.startedGroup j = s.engine.groups[j] := by
  unfold State.startedGroup
  split
  · next state => exact absurd state red
  · next state => exact absurd state redAmber
  · rfl

theorem beginStart_eq (now : Clock) (g : Group) :
    g.beginStart now =
      if g.type = .vehicle then { g with state := .redAmber, timeInState := 0, withheld := false, cutShort := false }
      else g.enterGreen now := by
  unfold Group.beginStart
  cases g.type <;> simp

/-! ## A step in RUN and HELD -/

/-- The state in which a group's start is tested in a step (R12 part 4). -/
def State.testedFrom (s : State) (g : GroupId) : State := s.advanceClock.takeEndings.startsBefore g.val

section
variable {s : State}

/-- What a step's starts are tested against, read off the state before the step. -/
structure TestedFrom (s : State) (g : GroupId) (v b : State) : Prop where
  group : v.engine.groups[g] = b.startedGroup g
  test : v.engine.startTests[g] = b.startTest g
  own : b.engine.groups[g] = s.endedGroup g
  clock : b.engine.clock = s.engine.clock + 1
  target : b.engine.interstage = s.engine.interstage
  conflicts : b.conflicts = s.conflicts
  conflict : ∀ i j : GroupId, b.conflict i j = s.conflict i j
  before : ∀ i : GroupId, b.engine.groups[i] = if i < g then v.engine.groups[i] else s.endedGroup i
  left : ∀ i : GroupId, v.engine.groups[i].state = .red → v.engine.groups[i] = s.endedGroup i

theorem endedGroup_type (s : State) (g : GroupId) : (s.endedGroup g).type = s.engine.groups[g].type :=
  (Group.KeepsRed.ending3 _ _ _).type

theorem testedFrom (running : isRunning s.engine.mode = true) (g : GroupId) :
    TestedFrom s g s.advanceClock.takeEndings.takeStarts (s.testedFrom g) := by
  have ended := takeEndings_advanced running
  have still : isRunning s.advanceClock.takeEndings.engine.mode = true := by rw [ended]; exact running
  have record : ∀ i : GroupId, s.advanceClock.takeEndings.engine.groups[i] = s.endedGroup i := fun i => by
    rw [ended]
    exact Vector.getElem_ofFn _
  have after : ∀ i : GroupId, s.advanceClock.takeEndings.takeStarts.engine.groups[i] =
      (s.testedFrom i).startedGroup i := fun i => by
    rw [takeStarts_running still, startsBefore_group le_rfl, if_pos i.isLt]
    rfl
  have own : ∀ i : GroupId, (s.testedFrom i).engine.groups[i] = s.endedGroup i := fun i => by
    rw [State.testedFrom, startsBefore_group i.isLt.le, if_neg (Nat.lt_irrefl _), record]
  have only := startsBefore_only g.val s.advanceClock.takeEndings
  rw [ended] at only
  refine
    { group := after g
      test := by rw [takeStarts_running still, startsBefore_test le_rfl, if_pos g.isLt]; rfl
      own := own g
      clock := by rw [State.testedFrom, ended, only]
      target := by rw [State.testedFrom, ended, only]
      conflicts := by rw [State.testedFrom, ended, only]
      conflict := fun i j => ?_
      before := fun i => ?_
      left := fun i red => ?_ }
  · refine conflict_of_same (by rw [State.testedFrom, ended, only]) (fun k => ?_) i j
    rw [State.testedFrom, startsBefore_type g.isLt.le, record, endedGroup_type]
  · rw [State.testedFrom, startsBefore_group g.isLt.le, record]
    refine if_congr Iff.rfl ?_ rfl
    rw [after]
    rfl
  · rw [after] at red ⊢
    rw [startedGroup_red red, own]

/-- A group in RED as a start is tested was left there by the groups before it, or by its own ending (R12, R52). -/
theorem TestedFrom.red_iff {g : GroupId} {v b : State} (tested : TestedFrom s g v b) (i : GroupId) :
    b.engine.groups[i].state = .red ↔
      if i < g then v.engine.groups[i].state = .red else (s.endedGroup i).state = .red := by
  rw [tested.before]
  split <;> rfl

/-- A group in RED as a start is tested has the last green end it had before the step. -/
theorem TestedFrom.lastGreenEnd {g : GroupId} {v b : State} (tested : TestedFrom s g v b) {i : GroupId}
    (red : b.engine.groups[i].state = .red) : b.engine.groups[i].lastGreenEnd = s.engine.groups[i].lastGreenEnd := by
  have ended : b.engine.groups[i] = s.endedGroup i := by
    rw [tested.before] at red ⊢
    split at red
    · next earlier => rw [if_pos earlier, tested.left i red]
    · next later => rw [if_neg later]
  rw [ended] at red ⊢
  exact ending3_lastGreenEnd red

end

end Sys2Proof.Machine
end

section
/-! What a decisecond step does to each group in RUN and HELD (R51, R52), and the step outside them (R3, R24). -/

namespace Sys2Proof.Machine

/-! ## The step in RUN and HELD -/

theorem timePhases_of_not_start {s : State} (mode : s.engine.mode ≠ .start) : s.timePhases = s := if_neg mode

theorem exec_decisecond {s : State} (ready : s.loading = false) :
    exec .decisecondStep s =
      .next ((s.advanceClock.takeEndings.takeStarts.testCompletion.timePhases).present.send [.sequencerTick]) :=
  next_event ready

/-- The endings and the starts of a step in RUN and HELD change the clock, the groups, the tests kept, and the store's
time. -/
theorem takeStarts_only {s : State} (running : isRunning s.engine.mode = true) :
    s.advanceClock.takeEndings.takeStarts =
      { s with
        uptimeMs := (s.uptimeMs / 100 + 1) * 100
        store := s.store.pass (100 - s.uptimeMs % 100)
        engine.clock := s.engine.clock + 1
        engine.groups := s.advanceClock.takeEndings.takeStarts.engine.groups
        engine.startTests := s.advanceClock.takeEndings.takeStarts.engine.startTests } := by
  have ended := takeEndings_advanced running
  generalize s.advanceClock.takeEndings = a at ended ⊢
  have only := startsBefore_only 16 a
  rw [← takeStarts_running (by rw [ended]; exact running)] at only
  generalize a.takeStarts = v at only ⊢
  rw [ended] at only
  exact only

theorem isRunning_ne_start {m : Mode} (running : isRunning m = true) : m ≠ .start := by
  rintro rfl
  cases running

/-- A step in RUN and HELD: the endings and starts, then the completion test, the outputs and the tick (R12). -/
theorem exec_decisecond_running {s : State} (ready : s.loading = false) (running : isRunning s.engine.mode = true) :
    exec .decisecondStep s =
      .next (s.advanceClock.takeEndings.takeStarts.testCompletion.present.send [.sequencerTick]) := by
  have mode : isRunning s.advanceClock.takeEndings.takeStarts.engine.mode = true := by
    rw [takeStarts_only running]
    exact running
  rw [exec_decisecond ready, timePhases_of_not_start]
  exact isRunning_ne_start ((State.ServiceMoved.testCompletion _).isRunning_mode.trans mode)

/-- What follows the starts of a step changes no group but its withheld flag (R53, R56, R59). -/
theorem decisecond_follows {s u : State} (ready : s.loading = false) (running : isRunning s.engine.mode = true)
    (taken : exec .decisecondStep s = .next u) (g : GroupId) :
    u.engine.groups[g] =
      { s.advanceClock.takeEndings.takeStarts.engine.groups[g] with withheld := u.engine.groups[g].withheld } ∧
    u.engine.clock = s.engine.clock + 1 ∧ u.lamps = s.lamps ∧ u.conflicts = s.conflicts ∧ u.quals = s.quals ∧
    u.faults = s.faults ∧ u.ports = s.ports := by
  rw [exec_decisecond_running ready running] at taken
  obtain rfl := Host.Outcome.next.inj taken
  have moved := State.ServiceMoved.testCompletion s.advanceClock.takeEndings.takeStarts
  have only := takeStarts_only running
  simp only [State.send_engine, State.send_lamps, State.send_conflicts, State.send_quals, State.send_faults,
    State.send_ports, present_engine, present_lamps, present_conflicts, present_quals, present_faults, present_ports]
  refine ⟨moved.engine.group g, ?_, ?_, ?_, ?_, ?_, ?_⟩
  · rw [moved.engine.kept, only]
  all_goals rw [moved.kept, only]

/-- The group that a step's endings leave, once the time has moved on (R8 to R10, R51). -/
theorem endedGroup_eq {s : State} {g : GroupId} {time : Nat} (moved : time = min 65535 (s.engine.groups[g].timeInState + 1)) :
    s.endedGroup g = Group.ending3 (s.engine.clock + 1) s.engine.interstage.target[g]
      { s.engine.groups[g] with timeInState := time } := by
  rw [moved]
  rfl

/-- Settles O19: the group's own ending, then its start in the state that the groups before it leave. -/
theorem stepEndsGroups : Obligations.StepEndsGroups := by
  rintro s v g time ready running rfl moved
  have tested := testedFrom running g
  have own := tested.own.trans (endedGroup_eq (moved g))
  refine ⟨exec_decisecond_running ready running, takeStarts_only running, fun green => ?_, fun redAmber => ?_,
    fun r run cleared state result run_iff cleared_iff => ?_, fun u taken => decisecond_follows ready running taken g⟩
  · rw [ending3_green (g := { s.engine.groups[g] with timeInState := time g }) green] at own
    rw [tested.group, startedGroup_of_other, own]
    · rfl
    · rw [own]
      split
      · simp only [Group.endGreen]
        split <;> nofun
      · rw [green]; nofun
    · rw [own]
      split
      · simp only [Group.endGreen]
        split <;> nofun
      · rw [green]; nofun
  · have still : s.endedGroup g = { s.engine.groups[g] with timeInState := time g } := by
      rw [endedGroup_eq (moved g), Group.ending3]
      simp only [redAmber]
    have here : (s.testedFrom g).engine.groups[g].state = .redAmber := by
      rw [tested.own, still]
      exact redAmber
    rw [tested.group, startedGroup_of_redAmber here, tested.own, still, tested.clock]
    rfl
  · have ended : (s.testedFrom g).engine.groups[g] = r := by
      rw [own, ending3_to_red (g := { s.engine.groups[g] with timeInState := time g }) state, result]
      rfl
    have kept : r.inhibited = s.engine.groups[g].inhibited ∧ r.redAmber = s.engine.groups[g].redAmber := by
      rw [result]
      split <;> exact ⟨rfl, rfl⟩
    have ran : ((s.testedFrom g).startTest g).minRedRun = true ↔ run := by
      rw [run_iff, ← ended, ← tested.clock]
      exact minRedRun_iff _ _
    have clear : ((s.testedFrom g).startTest g).intergreensRun = true ↔ cleared := by
      rw [cleared_iff, intergreensRun_iff]
      refine forall_congr' fun i => ?_
      rw [tested.conflict, tested.conflicts, tested.clock, ended, kept.2]
      refine imp_congr_right fun _ => ?_
      rw [show (if i < g then s.advanceClock.takeEndings.takeStarts.engine.groups[i].state = .red
          else s.engine.groups[i].state = .red ∨
            s.engine.groups[i].state = .amber ∧ s.engine.groups[i].amber ≤ time i ∨
            s.engine.groups[i].state = .clearance ∧ s.engine.groups[i].clearance ≤ time i) ↔
          (s.testedFrom g).engine.groups[i].state = .red by
        rw [tested.red_iff, endedGroup_eq (moved i), ending3_red]]
      exact and_congr_right fun red => by rw [tested.lastGreenEnd red]
    have starts : r.state = .red ∧ s.engine.interstage.target[g] = true ∧ r.inhibited = false ∧ run ∧ cleared ↔
        r.state = .red ∧ (s.testedFrom g).engine.interstage.target[g] = true ∧
          ((s.testedFrom g).startTest g).holds = true := by
      rw [startTest_holds, ran, clear, ended, tested.target]
    rw [tested.test, ran, clear, tested.group, ← kept.1, starts]
    refine ⟨by rw [← ended]; rfl, Iff.rfl, Iff.rfl, fun ⟨red, due⟩ => ?_, fun stays => ?_⟩
    · rw [startedGroup_of_red (ended ▸ red), if_pos due, ended, tested.clock, beginStart_eq]
      rfl
    · by_cases red : r.state = .red
      · rw [startedGroup_of_red (ended ▸ red), if_neg fun due => stays ⟨red, due⟩, ended]
      · rw [startedGroup_of_other (ended ▸ red), ended]
        rw [ended, result]
        split
        · nofun
        · rcases state with state | state | state <;> exact fun start => by rw [state] at start; cases start

/-- Settles O20: a group out of RED after the step has made its start, whose test read the groups as RED. -/
theorem startsKeepIntergreens : Obligations.StartsKeepIntergreens := by
  intro s u g ready running red taken left
  have tested := testedFrom running g
  have still : s.endedGroup g = s.engine.groups[g].ticked := by
    rw [State.endedGroup, Group.ending3]
    simp only [show s.engine.groups[g].ticked.state = .red from red]
  have here : (s.testedFrom g).engine.groups[g] = s.engine.groups[g].ticked := tested.own.trans still
  have out : s.advanceClock.takeEndings.takeStarts.engine.groups[g].state ≠ .red := by
    rw [(decisecond_follows ready running taken g).1] at left
    exact left
  rw [tested.group, startedGroup_of_red (by rw [here]; exact red), here] at out
  split at out
  case isFalse => exact absurd red out
  next due =>
  obtain ⟨free, run, cleared⟩ := (startTest_holds _ _).mp due.2
  rw [here] at free
  refine ⟨by rw [← tested.target]; exact due.1, free, ?_, fun i meet => ?_⟩
  · have ran := (minRedRun_iff _ _).mp run
    rw [here, tested.clock] at ran
    exact ran.imp_left fun time => le_trans time (Nat.min_le_right _ _)
  · obtain ⟨ended, enough⟩ := (intergreensRun_iff _ _).mp cleared i (by rw [tested.conflict]; exact meet)
    rw [tested.conflicts, tested.clock, tested.lastGreenEnd ended, here] at enough
    refine ⟨?_, enough⟩
    have reached : (s.endedGroup i).state = .red := by
      rw [tested.red_iff] at ended
      split at ended
      · rw [← tested.left i ended]; exact ended
      · exact ended
    obtain before | ⟨before, -⟩ | ⟨before, -⟩ := (ending3_red _ _ _).mp reached
    all_goals rw [show s.engine.groups[i].state = _ from before]; simp

/-! ## The step outside RUN and HELD -/

theorem completes_of_idle {e : Engine} (idle : e.interstage.inFlight = false) : e.completes = false := by
  rw [Engine.completes, idle, Bool.false_and]

theorem testCompletion_of_idle {s : State} (idle : s.engine.interstage.inFlight = false) : s.testCompletion = s :=
  if_neg (by rw [completes_of_idle idle]; nofun)

/-- The part moved on to the next decisecond outside RUN and HELD, with the start conditions kept (R12, R54). -/
def State.timeMoved (tests : Vector StartTest 16) (s : State) : State :=
  { s with
    uptimeMs := (s.uptimeMs / 100 + 1) * 100
    store := s.store.pass (100 - s.uptimeMs % 100)
    engine.clock := s.engine.clock + 1
    engine.groups := mapBank Group.ticked s.engine.groups
    engine.startTests := tests }

theorem timeMoved_group (tests : Vector StartTest 16) (s : State) (g : GroupId) :
    (s.timeMoved tests).engine.groups[g] = s.engine.groups[g].ticked := mapBank_getElem _ _ g

/-- A step outside RUN and HELD with no interstage in flight: time alone moves before the phases of START are timed. -/
theorem exec_decisecond_stopped {s : State} (ready : s.loading = false) (outside : isRunning s.engine.mode = false)
    (idle : s.engine.interstage.inFlight = false) :
    ∃ tests, exec .decisecondStep s = .next ((s.timeMoved tests).timePhases.present.send [.sequencerTick]) := by
  refine ⟨groupTests s.advanceClock, ?_⟩
  have ended : s.advanceClock.takeEndings = s.advanceClock := if_neg (by rw [Bool.not_eq_true]; exact outside)
  have started : s.advanceClock.takeStarts = s.timeMoved (groupTests s.advanceClock) :=
    if_neg (by rw [Bool.not_eq_true]; exact outside)
  rw [exec_decisecond ready, ended, started, testCompletion_of_idle (by exact idle)]

/-- RUN begins alike from states alike in what it uses. -/
theorem runBegun_same {s t : State} (seq : s.seq = t.seq) (clock : s.engine.clock = t.engine.clock)
    (hand : s.engine.hand = t.engine.hand) (hold : s.engine.hold = t.engine.hold) (time : s.uptimeMs = t.uptimeMs)
    (history : s.history = t.history) :
    s.runBegun.seq = t.runBegun.seq ∧ s.runBegun.history = t.runBegun.history ∧
      s.runBegun.engine.hold = t.runBegun.engine.hold := by
  unfold State.runBegun State.heldBy State.nowSec
  dsimp only
  rw [hand]
  split <;> simp only [seq, clock, hold, time, history, and_self]

/-- START with its phase timed for one decisecond (R24). -/
def State.phaseMoved (s : State) : State := { s with engine.phaseTime := s.engine.phaseTime + 1 }

theorem timePhases_start {s : State} (start : s.engine.mode = .start) :
    s.timePhases =
      if s.phaseMoved.engine.flashPhaseOver then s.phaseMoved.onEngine Engine.beginAllRed
      else if s.phaseMoved.engine.allRedPhaseOver then s.phaseMoved.beginRun
      else s.phaseMoved :=
  if_pos start

/-- The parts of the step's end that no phase moves: the outputs follow, and the tick is sent (R12, R68). -/
theorem stepEnd_kept (s t : State) (lamps : t.lamps = s.lamps) (conflicts : t.conflicts = s.conflicts)
    (quals : t.quals = s.quals) (faults : t.faults = s.faults) (ports : t.ports = s.ports) (store : t.store = s.store) :
    (t.present.send [.sequencerTick]).lamps = s.lamps ∧ (t.present.send [.sequencerTick]).conflicts = s.conflicts ∧
    (t.present.send [.sequencerTick]).quals = s.quals ∧ (t.present.send [.sequencerTick]).faults = s.faults ∧
    (t.present.send [.sequencerTick]).ports = s.ports ∧ (t.present.send [.sequencerTick]).store = s.store ∧
    Instr.sequencerTick ∈ (t.present.send [.sequencerTick]).outbox := by
  simp only [State.send_lamps, State.send_conflicts, State.send_quals, State.send_faults, State.send_ports, State.send_store,
    present_lamps, present_conflicts, present_quals, present_faults, present_ports, present_store]
  exact ⟨lamps, conflicts, quals, faults, ports, store, by simp [State.send, State.onOutbox]⟩

/-- Settles O18: time moves, and in START the phase that has run its time ends. -/
theorem stepOutsideServiceMovesTime : Obligations.StepOutsideServiceMovesTime := by
  intro s moved ready idle ticked
  have group : ∀ (tests : Vector StartTest 16) (g : GroupId), (s.timeMoved tests).engine.groups[g] = moved g :=
    fun tests g => (timeMoved_group tests s g).trans (ticked g).symm
  refine ⟨fun stopped => ?_, fun start => ?_⟩
  · obtain ⟨tests, taken⟩ := exec_decisecond_stopped ready (isRunning_of_stopped stopped) idle
    rw [timePhases_of_not_start fun start => by rw [show s.engine.mode = .start from start] at stopped; cases stopped]
      at taken
    obtain ⟨lamps, conflicts, quals, faults, ports, store, tick⟩ :=
      stepEnd_kept (s.timeMoved tests) (s.timeMoved tests) rfl rfl rfl rfl rfl rfl
    refine ⟨_, taken, ?_⟩
    simp only [State.send_engine, State.send_seq, State.send_history, present_engine, present_seq, present_history]
    exact ⟨rfl, group tests, rfl, rfl, rfl, lamps, conflicts, quals, faults, rfl, ports, store, tick⟩
  · obtain ⟨tests, taken⟩ := exec_decisecond_stopped ready (by rw [start]; rfl) idle
    rw [timePhases_start (s := s.timeMoved tests) start] at taken
    have timed : ∀ g : GroupId, (s.timeMoved tests).phaseMoved.engine.groups[g] = moved g := group tests
    by_cases flash : s.engine.startPhase = .flashPhase ∧ s.engine.startFlash ≤ s.engine.phaseTime + 1
    · rw [if_pos (flashPhaseOver_iff (e := (s.timeMoved tests).phaseMoved.engine).mpr ⟨start, flash⟩)] at taken
      refine ⟨_, taken, ?_, ?_, stepEnd_kept (s.timeMoved tests) _ (State.onEngine_lamps _ _) (State.onEngine_conflicts _ _)
        (State.onEngine_quals _ _) (State.onEngine_faults _ _) (State.onEngine_ports _ _) (State.onEngine_store _ _)⟩
      · rw [State.send_engine, present_engine]
        rfl
      · rw [if_pos flash, State.send_engine, State.send_seq, State.send_history, present_engine, present_seq,
          present_history]
        refine ⟨start, rfl, rfl, State.onEngine_seq _ _, State.onEngine_history _ _, fun g => ?_⟩
        have begun := beginAllRed_group (s.timeMoved tests).phaseMoved.engine g
        rw [timed, ticked, allRedState_eq, setTo_eq] at begun
        refine begun.trans ?_
        simp only [eq_comm]
        rfl
    · rw [if_neg fun run_out => flash (flashPhaseOver_iff.mp run_out).2] at taken
      by_cases red : s.engine.startPhase = .allRedPhase ∧ s.engine.allRed ≤ s.engine.phaseTime + 1
      · rw [if_pos (allRedPhaseOver_iff (e := (s.timeMoved tests).phaseMoved.engine).mpr ⟨start, red⟩),
          beginRun_runBegun (by exact idle)] at taken
        obtain ⟨none, mode, hold, groups, clock, dim, ⟨timer, index, state, plan⟩, ⟨sent, stage⟩, lamps, faults, conflicts,
          quals, ports, store⟩ := runBegun_serviceBegun (s.timeMoved tests).phaseMoved
        refine ⟨_, taken, ?_, ?_, stepEnd_kept (s.timeMoved tests) _ lamps conflicts quals faults ports store⟩
        · rw [State.send_engine, present_engine]
          exact clock
        · rw [if_neg flash, if_pos red, State.send_engine, State.send_seq, State.send_history, present_engine, present_seq,
            present_history]
          refine ⟨none, mode, hold, fun g => ?_, dim, timer, index, state, plan, ?_, stage, ?_⟩
          · rw [groups]
            exact timed g
          · rw [State.send, State.onOutbox_outbox, present_outbox]
            exact List.mem_append_left _ (List.mem_append_left _ sent)
          · rintro v rfl
            exact runBegun_same rfl rfl rfl rfl rfl rfl
      · rw [if_neg fun run_out => red (allRedPhaseOver_iff.mp run_out).2] at taken
        refine ⟨_, taken, ?_, ?_, stepEnd_kept (s.timeMoved tests) (s.timeMoved tests).phaseMoved rfl rfl rfl rfl rfl rfl⟩
        · rw [State.send_engine, present_engine]
          rfl
        · rw [if_neg flash, if_neg red, State.send_engine, State.send_seq, State.send_history, present_engine, present_seq,
            present_history]
          exact ⟨start, rfl, rfl, rfl, rfl, timed⟩

end Sys2Proof.Machine
end

section
/-! The interstage as its requests see it (R50, R53, R55, R56, R59): what beginning one and completing one do, and the
stage request. -/

namespace Sys2Proof.Machine

/-! ## Beginning an interstage -/

theorem beginInterstage_begun (r : StageRequest) (s : State) :
    InterstageBegun r s (s.onEngine (Engine.beginInterstage r)) where
  record := ⟨rfl, rfl, rfl, rfl⟩
  group g := by
    refine ⟨Vector.getElem_ofFn _, (Vector.getElem_ofFn _).trans rfl, (Vector.getElem_ofFn _).trans ?_⟩
    have kept : keptOut r.set g s.engine.groups[g] = (r.set[g] && s.engine.groups[g].inhibited &&
        s.engine.groups[g].state != .green && s.engine.groups[g].state != .redAmber) := by
      simp only [keptOut, bne, Bool.not_or, Bool.and_assoc]
    rw [kept]
    cases r.set[g]
    · simp only [Bool.false_and]
    · simp only [Bool.true_and]
  kept := rfl

/-! ## Completing an interstage -/

theorem setLatch_getElem (demands : StageSet) (index : Nat) (k : Fin 12) :
    (setLatch demands index false)[k] = (demands[k] && k.val + 1 != index) := by
  unfold setLatch numbered
  by_cases named : 1 ≤ index ∧ index ≤ 12
  · simp only [dif_pos named]
    rw [put_getElem]
    by_cases here : k.val + 1 = index
    · rw [if_pos (Fin.ext (by dsimp only; omega)), here]
      simp
    · rw [if_neg fun same => here (by rw [same]; dsimp only; omega)]
      simp [here]
  · simp only [dif_neg named]
    have apart : k.val + 1 ≠ index := fun same => named ⟨by omega, by omega⟩
    simp [apart]

/-- A stored correction made due is the one R88 fixes. -/
theorem correctionDue_correction (q : Sequencer) :
    q.correctionDue.correction = if q.correction.state = .stored then correctionBegun q else q.correction := by
  have limit : ∀ p : Nat, correctionLimit q.correction.direction p q.running.stageMin q.running.stageMax =
      if q.correction.direction = .shorten then p - q.running.stageMin else q.running.stageMax - p := fun p => by
    unfold correctionLimit
    cases q.correction.direction <;> rfl
  unfold Sequencer.correctionDue
  by_cases stored : q.correction.state = .stored
  · rw [if_pos stored, if_pos stored]
    simp only [limit]
    exact apply_ite Sequencer.correction _ _ _
  · rw [if_neg stored, if_neg stored]

/-- The stage of the latest request begins at its completion (R71, R88). -/
theorem reported_begun {q : Sequencer} {set : GroupSet} (latest : set = q.latest.set) (mode : Mode) :
    (q.reported mode set).state = .timing ∧ (q.reported mode set).stageTimer = 0 ∧
    (∀ k : Fin 12, (q.reported mode set).demands[k] = (q.demands[k] && k.val + 1 != q.running.index)) ∧
    (q.reported mode set).correction =
      if q.running.elastic = true ∧ q.correction.state = .stored then correctionBegun q else q.correction := by
  unfold Sequencer.reported
  dsimp only
  by_cases elastic : q.running.elastic = true
  · rw [if_pos latest, if_pos ⟨latest, elastic⟩, correctionDue_only, correctionDue_correction]
    refine ⟨rfl, rfl, setLatch_getElem q.demands q.running.index, ?_⟩
    simp only [elastic, true_and]
    rfl
  · rw [if_pos latest, if_neg (fun both : set = q.latest.set ∧ q.running.elastic = true => elastic both.2),
      if_neg (fun both : q.running.elastic = true ∧ q.correction.state = .stored => elastic both.1)]
    exact ⟨rfl, rfl, setLatch_getElem q.demands q.running.index, rfl⟩

theorem reported_other {q : Sequencer} {set : GroupSet} (other : set ≠ q.latest.set) (mode : Mode) :
    q.reported mode set = { q with budget := if mode = .run then q.budget - 1 else q.budget } := by
  unfold Sequencer.reported
  dsimp only
  rw [if_neg other, if_neg fun both => other both.1]

theorem reported_budget (q : Sequencer) (mode : Mode) (set : GroupSet) :
    (q.reported mode set).budget = if mode = .run then q.budget - 1 else q.budget := by
  unfold Sequencer.reported
  dsimp only
  split
  · rw [correctionDue_only]
  · rfl

/-- The groups entering that a completion names as withheld (R53). -/
theorem withheldEntering_eq {e : Engine} {withheld : GroupSet}
    (named : ∀ g : GroupId, withheld[g] = (e.interstage.entering[g] && e.groups[g].withheld)) :
    withheld = e.withheldEntering := by
  refine Vector.ext fun k inside => ?_
  exact (named ⟨k, inside⟩).trans (Vector.getElem_ofFn (f := fun g : GroupId =>
    e.interstage.entering[g] && e.groups[g].withheld) inside).symm

theorem complete_completed (s : State) : InterstageCompleted s s.complete where
  flight := by rw [complete_engine]; rfl
  begun latest := by
    rw [complete_only]
    exact reported_begun latest _
  other apart := by
    rw [complete_only]
    simp only [reported_other apart, and_self]
  budget := by rw [complete_only]; exact reported_budget _ _ _
  sequence := by rw [complete_only]; exact reported_only _ _ _
  mode := by rw [complete_engine]; rfl
  hold := by rw [complete_engine]; rfl
  sent := by
    rw [complete_eq_reported]
    by_cases due : s.engine.holdDue
    · rw [if_pos due, if_pos due, enterHeld_eq]
      rfl
    · rw [if_neg due, if_neg due, List.append_nil]
      rfl
  entries tag tagged withheld h named entered := by
    have change : s.changeEntered = h := by
      rw [entered, withheldEntering_eq named, State.changeEntered, tagged]
    rw [complete_eq_reported]
    by_cases due : s.engine.holdDue
    · rw [if_pos due, if_pos due, enterHeld_eq, ← change]
      unfold State.reported
      rw [reported_only]
      rfl
    · rw [if_neg due, if_neg due]
      exact change
  kept := by
    conv => lhs; rw [complete_only]
    rw [complete_only]
    rfl

theorem completes_iff {e : Engine} :
    e.completes = true ↔ e.interstage.inFlight = true ∧ ∀ g : GroupId, e.interstage.entering[g] = true →
      e.groups[g].state = .green ∨ e.groups[g].withheld = true := by
  simp only [Engine.completes, allGroups, Bool.and_eq_true, List.all_eq_true, List.mem_finRange, forall_const,
    Bool.or_eq_true, Bool.not_eq_true', beq_iff_eq]
  refine and_congr_right fun _ => forall_congr' fun g => ?_
  cases e.interstage.entering[g] <;> simp

/-- The test that ends a completion's own slot request tests no slot again, it being empty (R56). -/
theorem testCompletionOnce_eq {s : State} (empty : s.engine.slot = none) : s.testCompletionOnce = s.testCompletion := by
  unfold State.testCompletionOnce State.testCompletion
  refine ite_congr rfl (fun _ => ?_) fun _ => rfl
  have slot : s.complete.engine.slot = none := by rw [complete_engine]; exact empty
  dsimp only
  split
  · next full => rw [slot] at full; cases full
  · rfl

/-- What the completion test does (R53, R56). -/
theorem testCompletion_taken (s : State) (due : s.engine.completes = true) :
    InterstageCompleted s s.complete ∧
    (s.complete.engine.mode ≠ .run ∨ s.engine.slot = none → s.testCompletion = s.complete) ∧
    (s.complete.engine.mode = .run → ∀ r, s.engine.slot = some r →
      ∃ b, InterstageBegun r { s.complete with engine.slot := none } b ∧ s.testCompletion = b.testCompletion) := by
  have slot : s.complete.engine.slot = s.engine.slot := by rw [complete_engine]; rfl
  refine ⟨complete_completed s, fun alone => ?_, fun run r full => ?_⟩
  · obtain ⟨other, -⟩ | ⟨-, -, eq⟩ | ⟨r, -, run, full, -⟩ := testCompletion_cases s
    · rw [due] at other; cases other
    · exact eq
    · rw [slot] at full
      obtain mode | empty := alone
      · exact absurd run mode
      · rw [empty] at full; cases full
  · obtain ⟨other, -⟩ | ⟨-, empty, -⟩ | ⟨q, -, -, taken, eq⟩ := testCompletion_cases s
    · rw [due] at other; cases other
    · rw [← slot, empty run] at full; cases full
    · rw [slot, full] at taken
      obtain rfl := Option.some.inj taken
      refine ⟨_, beginInterstage_begun r { s.complete with engine.slot := none }, ?_⟩
      rw [eq, testCompletionOnce_eq rfl]
      rfl

/-! ## A request begun with no slot behind it -/

theorem beginInterstage_kept (r : StageRequest) (e : Engine) :
    (e.beginInterstage r).mode = e.mode ∧ (e.beginInterstage r).hold = e.hold ∧ (e.beginInterstage r).slot = e.slot := by
  unfold Engine.beginInterstage
  exact ⟨rfl, rfl, rfl⟩

/-- A request begun where no hold is due and no slot waits in RUN: it stands in flight, or it has completed at once. -/
theorem beginRequest_cases {r : StageRequest} {s : State} (undue : ¬ s.engine.holdDue)
    (slot : s.engine.mode = .run → s.engine.slot = none) :
    (s.onEngine (Engine.beginInterstage r)).engine.completes = false ∧
      s.beginRequest r = s.onEngine (Engine.beginInterstage r) ∨
    (s.onEngine (Engine.beginInterstage r)).engine.completes = true ∧
      s.beginRequest r = (s.onEngine (Engine.beginInterstage r)).reported := by
  have undue : ¬ (s.onEngine (Engine.beginInterstage r)).engine.holdDue := by
    obtain ⟨mode, hold, -⟩ := beginInterstage_kept r s.engine
    rw [State.onEngine_engine, Engine.holdDue, mode, hold]
    exact undue
  have completed : (s.onEngine (Engine.beginInterstage r)).complete =
      (s.onEngine (Engine.beginInterstage r)).reported := by rw [complete_eq_reported, if_neg undue]
  obtain ⟨stays, eq⟩ | ⟨due, -, eq⟩ | ⟨q, -, run, full, -⟩ := testCompletion_cases (s.onEngine (Engine.beginInterstage r))
  · exact .inl ⟨stays, eq⟩
  · exact .inr ⟨due, eq.trans completed⟩
  · rw [completed] at run full
    dsimp only [State.reported, State.onEngine, Engine.beginInterstage] at run full
    rw [slot run] at full
    cases full

/-- What a request begun leaves, whether or not it has completed (R50, R53). -/
structure RequestBegun (r : StageRequest) (s u : State) : Prop where
  target : u.engine.interstage.target = r.set
  tag : u.engine.interstage.tag = some r.tag
  begunAt : u.engine.interstage.begunAt = s.engine.clock
  mode : u.engine.mode = s.engine.mode
  hold : u.engine.hold = s.engine.hold
  slot : u.engine.slot = s.engine.slot
  entering : ∀ g : GroupId, u.engine.interstage.entering[g] =
    (r.set[g] && !(s.engine.groups[g].state == .green) && !(s.engine.groups[g].type == .unused))
  flight : u.engine.interstage.inFlight = true ↔
    ∃ g : GroupId, u.engine.interstage.entering[g] = true ∧ u.engine.groups[g].withheld = false
  moved : s.ServiceMoved u
  waiting : u.engine.interstage.inFlight = true → u.seq = s.seq ∧ u.history = s.history
  ended : u.engine.interstage.inFlight = false →
    u.history.lastStage = r.tag.stage ∧ u.seq = s.seq.reported s.engine.mode r.set

theorem beginInterstage_entering (r : StageRequest) (e : Engine) (g : GroupId) :
    (e.beginInterstage r).interstage.entering[g] =
      (r.set[g] && !(e.groups[g].state == .green) && !(e.groups[g].type == .unused)) :=
  Vector.getElem_ofFn _

/-- An interstage just begun completes at once unless a group of E is to open (R53). -/
theorem beginInterstage_completes (r : StageRequest) (e : Engine) :
    (e.beginInterstage r).completes = true ↔ ¬ ∃ g : GroupId, (e.beginInterstage r).interstage.entering[g] = true ∧
      (e.beginInterstage r).groups[g].withheld = false := by
  refine completes_iff.trans <| (and_iff_right (by rfl)).trans ?_
  push Not
  refine forall_congr' fun g => imp_congr_right fun enters => ?_
  have shut : e.groups[g].state ≠ .green := by
    rw [beginInterstage_entering, Bool.and_eq_true, Bool.and_eq_true, Bool.not_eq_true', beq_eq_false_iff_ne] at enters
    exact enters.1.2
  rw [(Engine.ServiceMoved.beginInterstage r e).group g, or_iff_right shut, ne_eq, Bool.not_eq_false]

theorem reported_seq (s : State) :
    s.reported.seq = s.seq.reported s.engine.mode s.engine.interstage.target := rfl

/-- The CHANGE entry of a completion leaves its stage as the last one (R164). -/
theorem reported_lastStage {s : State} {tag : Tag} (tagged : s.engine.interstage.tag = some tag) :
    s.reported.history.lastStage = tag.stage := by
  unfold State.reported State.changeEntered
  rw [tagged]
  rfl

theorem beginRequest_begun {r : StageRequest} {s : State} (undue : ¬ s.engine.holdDue)
    (slot : s.engine.mode = .run → s.engine.slot = none) : RequestBegun r s (s.beginRequest r) := by
  have moved := State.ServiceMoved.beginRequest r s
  have completes := beginInterstage_completes r s.engine
  have entering := beginInterstage_entering r s.engine
  obtain ⟨mode, hold, kept⟩ := beginInterstage_kept r s.engine
  have record := (beginInterstage_begun r s).record
  obtain ⟨stays, eq⟩ | ⟨due, eq⟩ := beginRequest_cases (r := r) undue slot <;> rw [eq] at moved ⊢
  · simp only [State.onEngine_engine] at stays record
    exact
      { target := record.2.1, tag := record.2.2.2, begunAt := record.2.2.1, mode, hold, slot := kept, entering, moved
        flight := iff_of_true record.1 (not_not.mp fun none => Bool.eq_false_iff.mp stays (completes.mpr none))
        waiting := fun _ => ⟨State.onEngine_seq _ _, State.onEngine_history _ _⟩
        ended := fun idle => by rw [State.onEngine_engine, record.1] at idle; cases idle }
  · simp only [State.onEngine_engine] at due record
    refine
      { target := record.2.1, tag := record.2.2.2, begunAt := record.2.2.1, mode, hold, slot := kept, entering, moved
        flight := iff_of_false nofun (completes.mp due)
        waiting := nofun
        ended := fun _ => ⟨reported_lastStage record.2.2.2, ?_⟩ }
    rw [reported_seq, State.onEngine_engine, State.onEngine_seq, mode, record.2.1]

/-! ## The stage request -/

theorem takeRequest_dropped {r : StageRequest} {s : State} (outside : isRunning s.engine.mode = false) :
    s.takeRequest r = s := if_pos (by rw [outside]; rfl)

theorem takeRequest_slot {r : StageRequest} {s : State} (running : isRunning s.engine.mode = true)
    (flight : s.engine.interstage.inFlight = true) :
    s.takeRequest r = s.onEngine fun e => { e with slot := if r.set = e.interstage.target then none else some r } := by
  rw [State.takeRequest, if_neg (by rw [running]; nofun), if_pos flight]

theorem takeRequest_begun {r : StageRequest} {s : State} (running : isRunning s.engine.mode = true)
    (idle : s.engine.interstage.inFlight = false) : s.takeRequest r = s.beginRequest r := by
  rw [State.takeRequest, if_neg (by rw [running]; nofun), if_neg (by rw [idle]; nofun)]

/-- Settles O35: the request by the junction's mode and flight, then the completion test in its cases. -/
theorem stageRequestTaken : Obligations.StageRequestTaken := by
  refine ⟨?_, fun s due due_iff => ?_⟩
  · rintro s t r ready rfl
    have taken : exec (.stageRequest r) s = .next ((s.taking (.stageRequest r)).takeRequest r).present := next_event ready
    refine ⟨fun outside => ?_, fun running flight => ?_, fun running idle => ?_, fun running idle sound => ?_⟩
    · rw [taken, takeRequest_dropped (by exact outside)]
    · rw [taken, takeRequest_slot (by exact running) (by exact flight)]
      rfl
    · refine ⟨_, beginInterstage_begun r _, ?_⟩
      rw [taken, takeRequest_begun (by exact running) (by exact idle)]
      rfl
    · rw [takeRequest_begun (by exact running) (by exact idle)] at taken
      have undue : ¬ s.engine.holdDue := fun due => by
        have flight := (sound.2.1 due.2).2
        rw [idle] at flight
        cases flight
      have slot : s.engine.mode = .run → s.engine.slot = none := fun run => by
        by_contra full
        have flight := sound.2.2 run full
        rw [idle] at flight
        cases flight
      have begun := beginRequest_begun (r := r) (s := s.taking (.stageRequest r)) undue slot
      have kept := begun.moved.kept
      refine ⟨_, taken, ?_⟩
      simp only [present_engine, present_seq, present_history, present_lamps, present_faults, present_conflicts,
        present_quals, present_ports, present_store]
      refine ⟨begun.target, begun.tag, begun.begunAt, begun.mode, begun.hold, begun.slot, begun.flight,
        fun ended => (begun.ended ended).1, begun.waiting, ?_, ?_, ?_, ?_, ?_, ?_⟩
      all_goals rw [kept]; rfl
  · have test : due ↔ s.engine.completes = true := due_iff.trans completes_iff.symm
    exact ⟨fun undue => if_neg fun completes => undue (test.mpr completes),
      fun completes => ⟨_, testCompletion_taken s (test.mp completes)⟩⟩

end Sys2Proof.Machine
end

section
/-! Holds and their release (R30 to R34), STEP and RUN_STEPS (R35, R36) and the door panel (R38). -/

namespace Sys2Proof.Machine

/-! ## Taking a hold -/

theorem takeHold_heldBy {s : State} (run : s.engine.mode = .run) (idle : s.engine.interstage.inFlight = false)
    (cause : HoldCause) (port : BudgetPort) :
    s.takeHold cause port = s.heldBy cause (if cause = .stepCount then port else .none) :=
  takeHold_run run idle cause port

theorem takeHold_pending {s : State} (run : s.engine.mode = .run) (flight : s.engine.interstage.inFlight = true)
    (free : s.engine.hold.pending = false) (cause : HoldCause) (port : BudgetPort) :
    s.takeHold cause port = s.onEngine fun e => { e with hold := e.hold.pend cause port } := by
  unfold State.takeHold
  simp only [run, flight, free, if_true]

/-- In HELD, and behind a pending hold, only the panel's hold is taken (R31). -/
theorem takeHold_kept {s : State} {cause : HoldCause} (other : cause ≠ .panel)
    (taken : s.engine.mode = .held ∨
      s.engine.mode = .run ∧ s.engine.interstage.inFlight = true ∧ s.engine.hold.pending = true)
    (port : BudgetPort) : s.takeHold cause port = s := by
  unfold State.takeHold
  obtain held | ⟨run, flight, pending⟩ := taken
  · rw [held]
    exact if_neg other
  · rw [run]
    dsimp only
    rw [if_pos flight, if_neg (by rw [pending]; nofun), if_neg other]

theorem takeHold_outside {s : State} (outside : isRunning s.engine.mode = false) (cause : HoldCause) (port : BudgetPort) :
    s.takeHold cause port = s := by
  unfold State.takeHold
  cases mode : s.engine.mode
  case run => rw [mode] at outside; cases outside
  case held => rw [mode] at outside; cases outside
  all_goals rfl

theorem isRunning_eq_false {m : Mode} (run : m ≠ .run) (held : m ≠ .held) : isRunning m = false := by
  cases m <;> first | rfl | exact absurd rfl run | exact absurd rfl held

theorem exec_hold {s : State} {p : Port} {cause : HoldCause} (ready : s.loading = false)
    (right : p = .plan ∧ cause = .planRequest ∨ p = .maintenance ∧ cause = .maintRequest)
    (running : isRunning s.engine.mode = true) : exec (.hold p) s = .next (State.ok p 7 [] (s.takeHold cause .none)) := by
  obtain ⟨rfl, rfl⟩ | ⟨rfl, rfl⟩ := right <;>
    exact congrArg Host.Outcome.next (serve_ok ready rfl (by simp [reqHold, running, holdCauseOf]))

/-- Settles O29: the hold of each of the three sources, by the junction's mode and flight. -/
theorem holdsTaken : Obligations.HoldsTaken := by
  intro s p b cause ready right
  have qualifier : exec .qualifierHold s = .next ((s.taking .qualifierHold).takeHold .qualifier .none) := next_event ready
  have stepCount : exec (.stepCountHold b) s = .next ((s.taking (.stepCountHold b)).takeHold .stepCount b) :=
    next_event ready
  have other : cause ≠ .panel ∧ cause ≠ .stepCount := by
    obtain ⟨-, rfl⟩ | ⟨-, rfl⟩ := right <;> decide
  rw [qualifier, stepCount]
  refine ⟨fun run idle => ?_, fun run flight free => ?_, fun taken => ?_, fun run held => ?_⟩
  · rw [exec_hold ready right (by rw [run]; rfl), takeHold_heldBy run idle, takeHold_heldBy (by exact run) (by exact idle),
      takeHold_heldBy (by exact run) (by exact idle), if_neg other.2]
    exact ⟨rfl, rfl, rfl⟩
  · rw [exec_hold ready right (by rw [run]; rfl), takeHold_pending run flight free,
      takeHold_pending (by exact run) (by exact flight) (by exact free),
      takeHold_pending (by exact run) (by exact flight) (by exact free)]
    simp only [HoldRecord.pend, if_neg other.2]
    exact ⟨trivial, rfl, rfl⟩
  · have running : isRunning s.engine.mode = true := by
      obtain held | ⟨run, -⟩ := taken
      · rw [held]; rfl
      · rw [run]; rfl
    rw [exec_hold ready right running, takeHold_kept other.1 taken, takeHold_kept (by decide) (by exact taken),
      takeHold_kept (by decide) (by exact taken)]
    exact ⟨rfl, rfl, rfl⟩
  · have outside := isRunning_eq_false run held
    rw [takeHold_outside (by exact outside), takeHold_outside (by exact outside)]
    refine ⟨?_, rfl, rfl⟩
    obtain ⟨rfl, -⟩ | ⟨rfl, -⟩ := right <;>
      exact congrArg Host.Outcome.next (serve_refused ready rfl (by simp [reqHold, outside]))

/-! ## Releasing a hold -/

/-- HELD left for RUN with nothing in the slot to begin (R34). -/
theorem leaveHeld_released {s : State} (slot : s.engine.slot = none ∨ s.engine.interstage.inFlight = true) :
    s.leaveHeld = s.released := by
  obtain ⟨-, eq⟩ | ⟨r, idle, full, -⟩ := leaveHeld_cases s
  · exact eq
  · obtain empty | flight := slot
    · rw [empty] at full; cases full
    · rw [flight] at idle; cases idle

/-- HELD left for RUN with a request in the slot, which is begun (R34, R56). -/
theorem leaveHeld_begun {s : State} {r : StageRequest} (idle : s.engine.interstage.inFlight = false)
    (full : s.engine.slot = some r) :
    s.leaveHeld = State.beginRequest r { s.released with engine.slot := none } := by
  obtain ⟨flight | empty, -⟩ | ⟨q, -, taken, eq⟩ := leaveHeld_cases s
  · rw [flight] at idle; cases idle
  · rw [empty] at full; cases full
  · rw [full] at taken
    obtain rfl := Option.some.inj taken
    exact eq

theorem beginRequest_eq (r : StageRequest) (s : State) :
    s.beginRequest r = (s.onEngine (Engine.beginInterstage r)).testCompletion := rfl

/-- A request begun in RUN as HELD is left: what it leaves, whether or not it has completed. -/
theorem leaveHeld_begun_entered (s : State) (r : StageRequest) :
    RequestBegun r { s.released with engine.slot := none }
      (State.onEngine { s.released with engine.slot := none } (Engine.beginInterstage r)).testCompletion := by
  rw [← beginRequest_eq]
  exact beginRequest_begun (fun due => Bool.false_ne_true due.2) fun _ => rfl

theorem mayRelease_iff {p : Port} (right : p = .plan ∨ p = .maintenance) (cause : HoldCause) (port : BudgetPort) :
    mayRelease p cause port = true ↔
      cause = .planRequest ∨ cause = .stepCount ∧ (p = .plan → port = .plan) ∨
        p = .maintenance ∧ (cause = .maintRequest ∨ cause = .qualifier) := by
  obtain rfl | rfl := right <;> cases cause <;> simp [mayRelease]

theorem setBudget_eq {p : Port} {b : BudgetPort} (right : p = .plan ∧ b = .plan ∨ p = .maintenance ∧ b = .maintenance)
    (n : Nat) (s : State) : s.setBudget p n = s.onSeq fun q => { q with budget := max 1 n, budgetPort := b } := by
  obtain ⟨rfl, rfl⟩ | ⟨rfl, rfl⟩ := right <;> rfl

theorem exec_resume {s t : State} {p : Port} (ready : s.loading = false) (right : p = .plan ∨ p = .maintenance)
    (taken : reqResume p s = okay t) : exec (.resume p) s = .next (State.ok p 8 [] t) := by
  obtain rfl | rfl := right <;> exact congrArg Host.Outcome.next (serve_ok ready rfl taken)

theorem exec_resume_refused {s : State} {p : Port} {status : Status} (ready : s.loading = false)
    (right : p = .plan ∨ p = .maintenance) (refused : reqResume p s = refuse status s) :
    exec (.resume p) s = .next (s.refusedWith p 8 status) := by
  obtain rfl | rfl := right <;> exact congrArg Host.Outcome.next (serve_refused ready rfl refused)

theorem exec_runSteps {s t : State} {p : Port} {n : Nat} (ready : s.loading = false)
    (right : p = .plan ∨ p = .maintenance) (taken : reqRunSteps p n s = okay t) :
    exec (.runSteps p n) s = .next (State.ok p 10 [] t) := by
  obtain rfl | rfl := right <;> exact congrArg Host.Outcome.next (serve_ok ready rfl taken)

theorem exec_runSteps_refused {s : State} {p : Port} {n : Nat} {status : Status} (ready : s.loading = false)
    (right : p = .plan ∨ p = .maintenance) (refused : reqRunSteps p n s = refuse status s) :
    exec (.runSteps p n) s = .next (s.refusedWith p 10 status) := by
  obtain rfl | rfl := right <;> exact congrArg Host.Outcome.next (serve_refused ready rfl refused)

/-- What an answer shows of a request begun as HELD is left (R34, R56). -/
theorem RequestBegun.answered {r : StageRequest} {s v : State} (begun : RequestBegun r s v) (p : Port) (code : Nat) :
    (State.ok p code [] v.present).engine.mode = s.engine.mode ∧
    (State.ok p code [] v.present).engine.hold = s.engine.hold ∧
    (State.ok p code [] v.present).engine.slot = s.engine.slot ∧
    (State.ok p code [] v.present).engine.interstage.target = r.set ∧
    (State.ok p code [] v.present).engine.interstage.tag = some r.tag ∧
    (State.ok p code [] v.present).engine.interstage.begunAt = s.engine.clock := by
  simp only [State.ok, State.respond_engine, present_engine]
  exact ⟨begun.mode, begun.hold, begun.slot, begun.target, begun.tag, begun.begunAt⟩

/-- Settles O31: the two releases by mode, and by whether the port may release the hold. -/
theorem releasesTaken : Obligations.ReleasesTaken := by
  rintro s t p b n cause mine ready right cause_eq mine_iff rfl
  have port : p = .plan ∨ p = .maintenance := right.imp And.left And.left
  have release : mayRelease p cause s.engine.hold.budgetPort = true ↔ mine :=
    (mayRelease_iff port cause _).trans mine_iff.symm
  have budget := setBudget_eq right n s
  refine ⟨fun held own slot => ⟨?_, ?_⟩, fun held own idle r full => ⟨?_, ?_⟩, fun held other => ⟨?_, ?_⟩,
    fun run => ⟨?_, fun free => ?_, fun pending own => ?_, fun pending other => ?_⟩, fun outside => ⟨?_, ?_⟩⟩
  all_goals first
    | rw [if_pos held] at cause_eq; subst cause_eq
    | skip
  · refine exec_resume ready port ?_
    rw [reqResume, held, ← leaveHeld_released slot]
    exact if_pos (release.mpr own)
  · refine exec_runSteps ready port ?_
    rw [reqRunSteps, held, ← budget, ← leaveHeld_released (by exact slot)]
    exact if_pos (release.mpr own)
  · refine ⟨_, _, beginInterstage_begun r _, rfl, ?_, (leaveHeld_begun_entered s r).answered p 8⟩
    refine exec_resume ready port ?_
    rw [reqResume, held]
    refine (if_pos (release.mpr own)).trans ?_
    rw [leaveHeld_begun idle full, beginRequest_eq]
  · refine ⟨_, _, beginInterstage_begun r _, rfl, ?_, (leaveHeld_begun_entered (s.onSeq _) r).answered p 10⟩
    refine exec_runSteps ready port ?_
    rw [reqRunSteps, held]
    refine (if_pos (release.mpr own)).trans ?_
    rw [budget, leaveHeld_begun (by exact idle) (by exact full), beginRequest_eq]
  · refine exec_resume_refused ready port ?_
    rw [reqResume, held]
    exact if_neg fun may => other (release.mp may)
  · refine exec_runSteps_refused ready port ?_
    rw [reqRunSteps, held]
    exact if_neg fun may => other (release.mp may)
  · refine exec_runSteps ready port ?_
    rw [reqRunSteps, run, budget]
  · refine exec_resume_refused ready port ?_
    rw [reqResume, run]
    exact if_pos free
  · rw [if_neg (by rw [run]; nofun)] at cause_eq
    subst cause_eq
    refine exec_resume ready port ?_
    rw [reqResume, run]
    exact (if_neg (by rw [pending]; nofun)).trans (if_pos (release.mpr own))
  · rw [if_neg (by rw [run]; nofun)] at cause_eq
    subst cause_eq
    refine exec_resume_refused ready port ?_
    rw [reqResume, run]
    exact (if_neg (by rw [pending]; nofun)).trans (if_neg fun may => other (release.mp may))
  · refine exec_resume_refused ready port ?_
    unfold reqResume
    cases mode : s.engine.mode <;> first | rfl | (rw [mode] at outside; cases outside)
  · refine exec_runSteps_refused ready port ?_
    unfold reqRunSteps
    cases mode : s.engine.mode <;> first | rfl | (rw [mode] at outside; cases outside)

end Sys2Proof.Machine
end

section
/-! STEP (R35) and the door panel (R38). -/

namespace Sys2Proof.Machine

/-! ## STEP -/

/-- The index that a STEP takes: the one it names, in range, or the next in list order (R35). -/
abbrev State.steps (s : State) (index : Option Nat) (k : Nat) : Prop :=
  index = some k ∧ 1 ≤ k ∧ k ≤ s.seq.plan.count ∨
    index = none ∧ k = (if s.seq.plan.count ≤ s.seq.stageIndex then 1 else s.seq.stageIndex + 1)

theorem takeStep_taken {s : State} {index : Option Nat} {k : Nat} (held : s.engine.mode = .held)
    (idle : s.engine.interstage.inFlight = false) (named : s.steps index k) :
    s.takeStep index =
      .ok (((s.stepFormed k).onEngine (Engine.beginInterstage (s.seq.requestFor k))).testCompletion).present := by
  have inside : ¬ (index.map fun k => within 1 s.seq.plan.count k) = some false := by
    obtain ⟨rfl, least, most⟩ | ⟨rfl, -⟩ := named
    · simp [within, least, most]
    · nofun
  have chosen : index.getD (nextIndex s.seq.plan.count s.seq.stageIndex) = k := by
    obtain ⟨rfl, -⟩ | ⟨rfl, rfl⟩ := named <;> rfl
  have formed : (s.onEngine fun e => { e with slot := none }).onSeq (Sequencer.issue k) = s.stepFormed k := rfl
  have request : (s.stepFormed k).seq.request = s.seq.requestFor k := rfl
  unfold State.takeStep
  rw [if_neg (not_not_intro held), if_neg (by rw [idle]; nofun), if_neg inside]
  dsimp only
  rw [chosen, formed, request, takeRequest_begun (by rw [show (s.stepFormed k).engine.mode = .held from held]; rfl)
    (by exact idle), beginRequest_eq]

theorem stepFormed_begun {s : State} (held : s.engine.mode = .held) (k : Nat) :
    RequestBegun (s.seq.requestFor k) (s.stepFormed k)
      ((s.stepFormed k).onEngine (Engine.beginInterstage (s.seq.requestFor k))).testCompletion := by
  rw [← beginRequest_eq]
  refine beginRequest_begun (fun due => ?_) fun _ => rfl
  have run : s.engine.mode = .run := due.1
  rw [held] at run
  cases run

/-- A request begun from a formed stage, with the outputs brought up to date, is what a STEP issues (R35, R50, R70). -/
theorem RequestBegun.stepIssued {s v : State} {k : Nat} (begun : RequestBegun (s.seq.requestFor k) (s.stepFormed k) v)
    (held : s.engine.mode = .held) : StepIssued k s v.present := by
  have seq := begun.moved.seq
  have kept := begun.moved.kept
  have engine := begun.moved.engine.kept
  have group := begun.moved.engine.group
  have budget : v.seq.budget = s.seq.budget ∧ v.seq.stageTimer = 0 ∧
      v.seq.state = if v.engine.interstage.inFlight then .awaiting else .timing := by
    cases flight : v.engine.interstage.inFlight with
    | true =>
      rw [(begun.waiting flight).1]
      exact ⟨rfl, rfl, rfl⟩
    | false =>
      obtain ⟨timing, timer, -⟩ :=
        reported_begun (q := (s.stepFormed k).seq) (set := (s.seq.requestFor k).set) rfl (s.stepFormed k).engine.mode
      rw [(begun.ended flight).2]
      refine ⟨?_, timer, timing⟩
      rw [reported_budget, if_neg (by rw [show (s.stepFormed k).engine.mode = .held from held]; nofun)]
      rfl
  obtain ⟨budget, timer, state⟩ := budget
  have record : ∀ g : GroupId, v.engine.groups[g] = { s.engine.groups[g] with withheld := v.engine.groups[g].withheld } :=
    begun.moved.engine.group
  refine
    { stage := ?_, latest := ?_, state := ?_, engine := ?_, interstage := ?_, group := fun g => ?_, kept := ?_ } <;>
    simp only [present_engine, present_seq, present_conflicts, present_lamps, present_quals, present_faults, present_store]
  · rw [seq]
    exact ⟨rfl, rfl, rfl, rfl, timer⟩
  · rw [seq]
    rfl
  · exact state
  · exact ⟨begun.mode.trans held, begun.hold, begun.slot, by rw [engine]; rfl⟩
  · refine ⟨begun.target, ?_, begun.begunAt, begun.flight.trans (exists_congr fun g => ?_)⟩
    · rw [begun.tag, seq]
      rfl
    · rw [begun.entering, Bool.and_eq_true, Bool.and_eq_true, Bool.not_eq_true', Bool.not_eq_true', beq_eq_false_iff_ne,
        beq_eq_false_iff_ne, and_assoc, and_assoc]
      exact and_congr_right fun _ => and_left_comm
  · exact record g
  · rw [seq, kept]
    exact ⟨rfl, rfl, rfl, rfl, budget, rfl, rfl, rfl, rfl, rfl, rfl, rfl, rfl⟩

namespace StepIssued
variable {k : Nat} {s t u : State}

/-- A button's input settled before the STEP does not show in it. -/
theorem of_stepButton {button : PanelInput} (settled : t = s.onEngine fun e => { e with stepButton := button })
    (issued : StepIssued k t u) : StepIssued k s u := by
  subst settled
  exact ⟨issued.stage, issued.latest, issued.state, issued.engine, issued.interstage, issued.group, issued.kept⟩

/-- The answer to the STEP leaves what it issued. -/
theorem answered (issued : StepIssued k s u) (p : Port) (code : Nat) : StepIssued k s (u.ok p code []) :=
  ⟨issued.stage, issued.latest, issued.state, issued.engine, issued.interstage, issued.group, issued.kept⟩

end StepIssued

theorem exec_step {s t : State} {p : Port} {index : Option Nat} (ready : s.loading = false) (right : p ≠ .monitor)
    (taken : s.takeStep index = .ok t) : exec (.step p index) s = .next (State.ok p 9 [] t) := by
  have answer : reqStep index s = okay t := by rw [reqStep, taken]
  cases p
  case monitor => exact absurd rfl right
  all_goals exact congrArg Host.Outcome.next (serve_ok ready rfl answer)

theorem exec_step_refused {s : State} {p : Port} {index : Option Nat} {status : Status} (ready : s.loading = false)
    (right : p ≠ .monitor) (refused : s.takeStep index = .error status) :
    exec (.step p index) s = .next (s.refusedWith p 9 status) := by
  have answer : reqStep index s = refuse status s := by rw [reqStep, refused]
  cases p
  case monitor => exact absurd rfl right
  all_goals exact congrArg Host.Outcome.next (serve_refused ready rfl answer)

theorem takeStep_wrongMode {s : State} (mode : s.engine.mode ≠ .held) (index : Option Nat) :
    s.takeStep index = .error .wrongMode := if_pos mode

theorem takeStep_busy {s : State} (held : s.engine.mode = .held) (flight : s.engine.interstage.inFlight = true)
    (index : Option Nat) : s.takeStep index = .error .busy := by
  rw [State.takeStep, if_neg (not_not_intro held), if_pos flight]

theorem takeStep_range {s : State} {k : Nat} (held : s.engine.mode = .held) (idle : s.engine.interstage.inFlight = false)
    (outside : k = 0 ∨ s.seq.plan.count < k) : s.takeStep (some k) = .error .range := by
  have wrong : within 1 s.seq.plan.count k = false := by simp [within]; omega
  rw [State.takeStep, if_neg (not_not_intro held), if_neg (by rw [idle]; nofun),
    if_pos (show Option.map (within 1 s.seq.plan.count) (some k) = some false by rw [Option.map_some, wrong])]

/-- Settles O32: the refusals in order, then the stage formed and its request begun. -/
theorem stepTaken : Obligations.StepTaken := by
  intro s p index ready right
  refine ⟨fun mode => ?_, fun held flight => ?_, fun held idle k named outside => ?_, fun held idle k named => ?_⟩
  · exact exec_step_refused ready right (takeStep_wrongMode mode _)
  · exact exec_step_refused ready right (takeStep_busy held flight _)
  · subst named
    exact exec_step_refused ready right (takeStep_range held idle outside)
  · refine ⟨_, _, beginInterstage_begun _ _, rfl, exec_step ready right (takeStep_taken held idle named),
      ((stepFormed_begun held k).stepIssued held).answered p 9, ?_⟩
    rw [ok_response]
    rfl

/-! ## The door panel -/

theorem turning_true {i : PanelInput} (timer : i.timer ≠ none) (raw : i.raw = true) (debounced : i.debounced = false) :
    i.turning true = true ∧ i.settle = { raw := true, debounced := true, timer := none } := by
  obtain ⟨now, running⟩ := Option.ne_none_iff_exists'.mp timer
  simp [PanelInput.turning, PanelInput.settle, running, raw, debounced]

theorem turning_false {i : PanelInput} (timer : i.timer ≠ none) (raw : i.raw = false) (debounced : i.debounced = true) :
    i.turning false = true ∧ i.settle = { raw := false, debounced := false, timer := none } := by
  obtain ⟨now, running⟩ := Option.ne_none_iff_exists'.mp timer
  simp [PanelInput.turning, PanelInput.settle, running, raw, debounced]

theorem takeHold_panel_held {s : State} (held : s.engine.mode = .held) :
    s.takeHold .panel .none =
      { s with
        engine.hold := { s.engine.hold with cause := .panel, budgetPort := .none }
        history := s.history.take s.nowSec (.hold s.seq.inForce s.seq.stageIndex s.seq.cycleTimer .panel) } := by
  unfold State.takeHold
  rw [held]
  rfl

theorem takeHold_panel_flight {s : State} (run : s.engine.mode = .run) (flight : s.engine.interstage.inFlight = true) :
    s.takeHold .panel .none = s.onEngine fun e =>
      { e with hold := { e.hold with pending := true, pendingCause := .panel, budgetPort := .none } } := by
  cases pending : s.engine.hold.pending with
  | false => rw [takeHold_pending run flight pending]; rfl
  | true =>
    unfold State.takeHold
    simp only [run, flight, pending, if_true]
    rw [if_neg nofun, State.onEngine, State.onEngine, pending]

/-- What HAND off does once its level has settled (R38). -/
def State.handedOver (s : State) : State :=
  match s.engine.mode with
  | .held => if s.engine.hold.cause = .panel then s.leaveHeld.present else s
  | .run =>
    if s.engine.hold.pending = true ∧ s.engine.hold.pendingCause = .panel then
      s.onEngine fun e => { e with hold := e.hold.unpend }
    else s
  | .dark | .start | .flash | .supplyOff => s

theorem handedOver_held {s : State} (held : s.engine.mode = .held) :
    s.handedOver = if s.engine.hold.cause = .panel then s.leaveHeld.present else s := by
  rw [State.handedOver, held]

theorem handedOver_run {s : State} (run : s.engine.mode = .run) :
    s.handedOver =
      if s.engine.hold.pending = true ∧ s.engine.hold.pendingCause = .panel then
        s.onEngine fun e => { e with hold := e.hold.unpend }
      else s := by
  rw [State.handedOver, run]

theorem handedOver_outside {s : State} (outside : isRunning s.engine.mode = false) : s.handedOver = s := by
  unfold State.handedOver
  cases mode : s.engine.mode
  case run => rw [mode] at outside; cases outside
  case held => rw [mode] at outside; cases outside
  all_goals rfl

theorem handOff_taken {s : State} (ready : s.loading = false) (turning : s.engine.hand.turning false = true) :
    exec .handOff s = .next (s.onEngine fun e => { e with hand := s.engine.hand.settle }).handedOver :=
  (next_event ready).trans (congrArg Host.Outcome.next (if_pos turning))

theorem stepPress_taken {s : State} (ready : s.loading = false) (turning : s.engine.stepButton.turning true = true) :
    exec .stepPress s = .next
      (match (s.onEngine fun e => { e with stepButton := s.engine.stepButton.settle }).takeStep none with
       | .ok t => t
       | .error _ => s.onEngine fun e => { e with stepButton := s.engine.stepButton.settle }) :=
  (next_event ready).trans (congrArg Host.Outcome.next (if_pos turning))

/-- Settles O30: each event by the settled input, then the hold, the release or the STEP it stands for. -/
theorem panelActs : Obligations.PanelActs := by
  intro s ready
  refine ⟨fun on => ⟨?_, ?_⟩, ?_, ?_, ?_, fun timer raw debounced => ?_⟩
  · refine (congrArg Host.Outcome.next ?_ : exec (.panelRawChange .hand on) s = _)
    rw [ready]
    rfl
  · refine (congrArg Host.Outcome.next ?_ : exec (.panelRawChange .step on) s = _)
    rw [ready]
    rfl
  · rintro t timer raw debounced rfl
    obtain ⟨turning, settled⟩ := turning_true timer raw debounced
    have taken : exec .handOn s = .next ((s.onEngine fun e => { e with hand := { raw := true, debounced := true, timer := none } }).takeHold .panel .none) := by
      refine (next_event ready).trans (congrArg Host.Outcome.next ((if_pos turning).trans ?_))
      rw [← settled]
      rfl
    rw [taken]
    refine ⟨fun run idle => ?_, fun run flight => ?_, fun held => ?_, fun outside => ?_⟩
    · rw [takeHold_heldBy (by exact run) (by exact idle), if_neg nofun]
    · rw [takeHold_panel_flight (by exact run) (by exact flight)]
    · rw [takeHold_panel_held (by exact held)]
      rfl
    · rw [takeHold_outside (by exact outside)]
  · rintro t timer raw debounced rfl
    obtain ⟨turning, settled⟩ := turning_false timer raw debounced
    have taken := handOff_taken ready turning
    rw [settled] at taken
    refine ⟨fun held panel slot => ?_, fun held panel idle r full => ?_, fun held other => ?_, fun run pending panel => ?_,
      fun run other => ?_, fun outside => ?_⟩
    · rw [taken, handedOver_held (by exact held), if_pos (by exact panel), leaveHeld_released (by exact slot)]
    · refine ⟨_, beginInterstage_begun r _, ?_⟩
      rw [taken, handedOver_held (by exact held), if_pos (by exact panel), leaveHeld_begun (by exact idle) (by exact full),
        beginRequest_eq]
    · rw [taken, handedOver_held (by exact held), if_neg (by exact other)]
    · rw [taken, handedOver_run (by exact run), if_pos ⟨pending, panel⟩]
      rfl
    · rw [taken, handedOver_run (by exact run), if_neg fun both => other.elim
        (fun free => Bool.false_ne_true (free.symm.trans both.1)) fun cause => cause both.2]
    · rw [taken, handedOver_outside (by exact outside)]
  · intro t timer raw debounced pressed
    obtain ⟨turning, settled⟩ := turning_true timer raw debounced
    have taken := stepPress_taken ready turning
    rw [settled, ← pressed] at taken
    have engine : t.engine.mode = s.engine.mode ∧ t.engine.interstage = s.engine.interstage ∧ t.seq = s.seq := by
      rw [pressed]
      exact ⟨rfl, rfl, rfl⟩
    obtain ⟨mode, interstage, seq⟩ := engine
    refine ⟨fun refused => ?_, fun held idle => ?_⟩
    · rw [← mode, ← interstage] at refused
      rw [taken]
      by_cases held : t.engine.mode = .held
      · rw [takeStep_busy held (refused.resolve_left (not_not_intro held))]
      · rw [takeStep_wrongMode held]
    · rw [← mode] at held
      rw [← interstage] at idle
      rw [← seq]
      generalize next : (if t.seq.plan.count ≤ t.seq.stageIndex then 1 else t.seq.stageIndex + 1) = k
      rw [takeStep_taken held idle (.inr ⟨rfl, next.symm⟩)] at taken
      have begun := stepFormed_begun held k
      refine ⟨_, taken, ?_, ?_, (begun.stepIssued held).of_stepButton pressed, ?_⟩
      · rw [present_engine, begun.moved.engine.kept]
        rfl
      · rw [present_ports, begun.moved.kept, pressed]
        rfl
      · rintro _ rfl
        exact ⟨_, beginInterstage_begun _ _, rfl⟩
  · obtain ⟨turning, settled⟩ := turning_false timer raw debounced
    refine (next_event ready).trans (congrArg Host.Outcome.next ((if_pos turning).trans ?_))
    rw [← settled]
    rfl

end Sys2Proof.Machine
end

section
/-! Red loss as the engine takes it (R57 to R60, R123), the contactor's check (R18), and what the Lamp Proving Unit is told
(R20, R99, R100, R104). -/

namespace Sys2Proof.Machine

/-! ## Red loss -/

/-- What becomes of a group in a recomputation of inhibition, acted on when it is newly inhibited (R58, R60). -/
structure Group.ActedOn (newly : Prop) (now : Clock) (g a : Group) : Prop where
  redAmber : newly → g.state = .redAmber → a.state = .red ∧ a.timeInState = 0
  green : newly → g.state = .green → a.state = (if g.type = .pedestrian then .clearance else .amber) ∧
    a.timeInState = 0 ∧ a.lastGreenEnd = now
  other : ¬ newly ∨ g.state ∉ [GroupState.redAmber, .green] → a.state = g.state ∧ a.timeInState = g.timeInState
  lastGreenEnd : ¬ newly ∨ g.state ≠ .green → a.lastGreenEnd = g.lastGreenEnd
  cut : newly → g.state = .green → a.cutShort = true
  uncut : newly → g.state = .redAmber → a.cutShort = false
  cutKept : ¬ newly ∨ g.state ∉ [GroupState.redAmber, .green] → a.cutShort = g.cutShort
  kept : a = { g with state := a.state, timeInState := a.timeInState, lastGreenEnd := a.lastGreenEnd,
                      cutShort := a.cutShort }

theorem actedOn_kept {newly : Prop} {now : Clock} {g : Group}
    (same : ¬ newly ∨ g.state ∉ [GroupState.redAmber, .green]) : g.ActedOn newly now g where
  redAmber new state := by simp [new, state] at same
  green new state := by simp [new, state] at same
  other _ := ⟨rfl, rfl⟩
  lastGreenEnd _ := rfl
  cut new state := by simp [new, state] at same
  uncut new state := by simp [new, state] at same
  cutKept _ := rfl
  kept := rfl

theorem actedOn_inhibitNow {newly : Prop} (new : newly) (now : Clock) (g : Group) :
    g.ActedOn newly now (g.inhibitNow now) := by
  unfold Group.inhibitNow
  cases state : g.state
  case redAmber => constructor <;> simp [state, new]
  case green => constructor <;> simp [state, new]
  all_goals exact actedOn_kept (.inr (by rw [state]; decide))

theorem actedGroup_actedOn (s : State) (h : GroupId) {newly : Prop} (new : newly ↔ isRunning s.engine.mode = true ∧
    s.inhibitedNow h = true ∧ s.engine.groups[h].inhibited = false) :
    s.engine.groups[h].ActedOn newly s.engine.clock (s.actedGroup h) := by
  have test : (s.inhibitedNow h && !s.engine.groups[h].inhibited && isRunning s.engine.mode) = true ↔ newly := by
    rw [new, Bool.and_eq_true, Bool.and_eq_true, Bool.not_eq_true', and_comm]
  unfold State.actedGroup
  by_cases acts : newly
  · rw [if_pos (test.mpr acts)]
    exact actedOn_inhibitNow acts _ _
  · rw [if_neg fun holds => acts (test.mp holds)]
    exact actedOn_kept (.inl acts)

theorem recomputed_only (groups : Vector Group 16) (s : State) :
    State.recomputeInhibition { s with engine.groups := groups } =
      { s with engine.groups := (State.recomputeInhibition { s with engine.groups := groups }).engine.groups } := rfl

/-- The group's declared red loss written to its flag (R123). -/
def State.redLossSet (g : GroupId) (d : Bool) (s : State) : State :=
  { s with engine.groups := put s.engine.groups g { s.engine.groups[g] with redLost := d } }

theorem redLossSet_group (g : GroupId) (d : Bool) (s : State) (h : GroupId) :
    (s.redLossSet g d).engine.groups[h] =
      { s.engine.groups[h] with redLost := if h = g then d else s.engine.groups[h].redLost } := by
  refine (put_getElem _ _ _ _).trans ?_
  split
  · next same => rw [same]
  · rfl

theorem redLossSet_inhibitedNow (g : GroupId) (d : Bool) (s : State) (h : GroupId) :
    (s.redLossSet g d).inhibitedNow h = true ↔
      ∃ i : GroupId, s.conflict i h = true ∧ (if i = g then d else s.engine.groups[i].redLost) = true := by
  rw [inhibitedNow_iff]
  refine exists_congr fun i => ?_
  rw [conflict_of_same (s := s) (t := s.redLossSet g d) rfl fun k => by rw [redLossSet_group], redLossSet_group]

theorem newlyWithheld_iff {old new : Engine} :
    newlyWithheld old new = true ↔ ∃ h : GroupId, new.interstage.entering[h] = true ∧ new.groups[h].withheld = true ∧
      old.groups[h].withheld = false := by
  simp [newlyWithheld, allGroups, and_assoc]

theorem takeRedLoss_changed {s : State} {g : GroupId} {d : Bool} (declared : d = s.lamps.lamps[coreOf g .R].redLossDeclared)
    (differs : s.engine.groups[g].redLost ≠ d) : s.takeRedLoss g = (s.redLossSet g d).inhibitionEvent.present := by
  subst declared
  exact if_neg differs

/-- Settles O36: the flag written, then inhibition recomputed group by group, and the completion test when it calls for
one. -/
theorem redLossTaken : Obligations.RedLossTaken := by
  intro s g d ready declared
  have taken : exec (.redLossChange g) s = .next ((s.taking (.redLossChange g)).takeRedLoss g) := next_event ready
  refine ⟨fun same => ?_, fun differs => ?_⟩
  · rw [taken]
    exact congrArg Host.Outcome.next (if_pos (same.trans declared))
  · rw [takeRedLoss_changed (s := s.taking (.redLossChange g)) (d := d) declared differs] at taken
    generalize message : s.taking (.redLossChange g) = t at taken ⊢
    have kept : t.engine = s.engine ∧ t.conflicts = s.conflicts := by
      rw [← message]
      exact ⟨rfl, rfl⟩
    obtain ⟨engine, conflicts⟩ := kept
    have written : ∀ h : GroupId, (t.redLossSet g d).engine.groups[h] =
        { s.engine.groups[h] with redLost := if h = g then d else s.engine.groups[h].redLost } := fun h => by
      rw [redLossSet_group, engine]
    have service : (t.redLossSet g d).engine.interstage = s.engine.interstage ∧
        (t.redLossSet g d).engine.mode = s.engine.mode ∧ (t.redLossSet g d).engine.clock = s.engine.clock := by
      rw [← engine]
      exact ⟨rfl, rfl, rfl⟩
    obtain ⟨interstage, mode, clock⟩ := service
    have inhibited : ∀ h : GroupId, (t.redLossSet g d).inhibitedNow h = true ↔
        ∃ i : GroupId, s.conflict i h = true ∧ (if i = g then d else s.engine.groups[i].redLost) = true := fun h => by
      rw [redLossSet_inhibitedNow, engine]
      refine exists_congr fun i => ?_
      rw [conflict_of_same (s := s) (t := t) (by rw [conflicts]) fun k => by rw [engine]]
    have only := recomputed_only (put t.engine.groups g { t.engine.groups[g] with redLost := d }) t
    have tested : (t.redLossSet g d).inhibitionEvent =
        if newlyWithheld (t.redLossSet g d).engine (t.redLossSet g d).recomputeInhibition.engine then
          (t.redLossSet g d).recomputeInhibition.testCompletion
        else (t.redLossSet g d).recomputeInhibition := rfl
    have entering : (t.redLossSet g d).recomputeInhibition.engine.interstage = s.engine.interstage := interstage
    generalize before : t.redLossSet g d = u at taken written interstage mode clock inhibited tested entering
    refine ⟨u.recomputeInhibition, by rw [← before]; exact only, fun h => ⟨?_, fun newly shown new shown_eq => ?_⟩,
      fun some => ?_, fun none => ?_⟩
    · rw [recomputeInhibition_group]
      exact inhibited h
    · have acted := actedGroup_actedOn u h (newly := newly) (by
        rw [new, recomputeInhibition_group, mode, written])
      rw [clock, written] at acted
      rw [shown_eq, recomputeInhibition_group, interstage]
      generalize u.actedGroup h = a at acted ⊢
      refine ⟨acted.redAmber, acted.green, acted.other, acted.lastGreenEnd, acted.cut, acted.uncut, acted.cutKept, ?_⟩
      conv => lhs; rw [acted.kept]
      simp only [keptOut, bne, Bool.not_or, Bool.and_assoc]
    · rw [taken, tested, if_pos (newlyWithheld_iff.mpr ?_)]
      obtain ⟨h, enters, now, earlier⟩ := some
      exact ⟨h, by rw [entering]; exact enters, now, by rw [written]; exact earlier⟩
    · rw [taken, tested, if_neg fun newly => ?_]
      obtain ⟨h, enters, now, earlier⟩ := newlyWithheld_iff.mp newly
      rw [entering] at enters
      rw [written, none h enters now] at earlier
      cases earlier

/-! ## Notices to the Lamp Proving Unit -/

/-- Settles O46: each message marks what it tells of, and a suspension drops the frame readings. -/
theorem lampNoticesTaken : Obligations.LampNoticesTaken := by
  intro s c b blk m ready
  refine ⟨next_event ready, next_event ready, next_event ready, fun other => ?_, fun suspended => ?_, fun scanning => ?_⟩
  · refine (next_event ready).trans ?_
    cases blk
    case lampUnit => exact absurd rfl other
    all_goals rfl
  · exact (next_event ready).trans (congrArg Host.Outcome.next (if_neg (by rw [suspended]; nofun)))
  · refine ⟨s.lamps.suspend, (next_event ready).trans (congrArg Host.Outcome.next (if_pos scanning)), rfl, fun d => ⟨?_, ?_⟩⟩
    · simp only [LampUnit.suspend, LampUnit.emptyFrame, mapBank_getElem]
    · refine (Vector.getElem_ofFn _).trans ?_
      have left : (rowLeftOut s.lamps.scanMode (letterOf d) || s.lamps.lamps[d].fitted == 0) = true ↔
          (s.lamps.scanMode = .threeRow ∧ letterOf d = .X) ∨ s.lamps.lamps[d].fitted = 0 := by simp [rowLeftOut]
      refine (if_congr left rfl rfl).trans ?_
      split <;> rfl

/-! ## The contactor's check -/

/-- What setting the contactor's line does to its timer and to the fault table (R18). -/
theorem contactor_after (feedback before closed : Bool) (now : Clock) (timer : Option Clock) (t : FaultTable) :
    (before = closed → timerAfter feedback before closed now timer = timer ∧ faultsAfter feedback before closed t = t) ∧
    (before ≠ closed → feedback ≠ closed →
      timerAfter feedback before closed now timer = some now ∧ faultsAfter feedback before closed t = t) ∧
    (before ≠ closed → feedback = closed →
      timerAfter feedback before closed now timer = none ∧
        faultsAfter feedback before closed t = t.clear .contactor .none) := by
  cases feedback <;> cases before <;> cases closed <;> simp [timerAfter, faultsAfter]

/-- What the check says of a change of the contactor's line, from the table as the change finds it (R18). -/
structure LineChecked (closed : Bool) (s : State) (before : FaultTable) (u : State) : Prop where
  line : u.engine.contactorClosed = closed
  feedback : u.engine.feedbackClosed = s.engine.feedbackClosed
  kept : s.engine.contactorClosed = closed → u.engine.contactorTimer = s.engine.contactorTimer ∧ u.faults = before
  apart : s.engine.contactorClosed ≠ closed → s.engine.feedbackClosed ≠ closed →
    u.engine.contactorTimer = some s.nowMs ∧ u.faults = before
  agreed : s.engine.contactorClosed ≠ closed → s.engine.feedbackClosed = closed →
    u.engine.contactorTimer = none ∧ u.faults = before.clear .contactor .none

theorem safeEntry_lineChecked (flash : Bool) (s : State) : LineChecked flash s s.faults (s.safeEntry flash) := by
  obtain ⟨kept, apart, agreed⟩ := contactor_after s.engine.feedbackClosed s.engine.contactorClosed flash s.nowMs
    s.engine.contactorTimer s.faults
  rw [safeEntry_eq]
  constructor <;> simp only [present_engine, present_faults]
  · rfl
  · rfl
  · exact kept
  · exact apart
  · exact agreed

theorem restartMoved_lineChecked (s : State) :
    LineChecked true s (s.faults.clear .forced .none) s.restartMoved.present := by
  obtain ⟨kept, apart, agreed⟩ := contactor_after s.engine.feedbackClosed s.engine.contactorClosed true s.nowMs
    s.engine.contactorTimer (s.faults.clear .forced .none)
  constructor <;> simp only [present_engine, present_faults]
  · rfl
  · rw [State.restartMoved, Engine.restarted_only]
  · exact kept
  · exact apart
  · exact agreed

namespace LineChecked
variable {closed : Bool} {s t u : State} {before : FaultTable}

/-- The check made as a request that is answered. -/
theorem answered (checked : LineChecked closed s before u) (p : Port) (code : Nat) :
    LineChecked closed s before (u.ok p code []) :=
  ⟨checked.line, checked.feedback, checked.kept, checked.apart, checked.agreed⟩

/-- A fault raised, or a message taken, before the line is set leaves what the check starts from. -/
theorem of_raise {k : FaultKind} {x : Subject} (checked : LineChecked closed (s.raise k x) before u) :
    LineChecked closed s before u :=
  ⟨checked.line, checked.feedback, checked.kept, checked.apart, checked.agreed⟩

theorem of_taking {m : Instr} (checked : LineChecked closed (s.taking m) before u) : LineChecked closed s before u :=
  ⟨checked.line, checked.feedback, checked.kept, checked.apart, checked.agreed⟩

end LineChecked

theorem isRunning_cases {m : Mode} (running : isRunning m = true) : m = .run ∨ m = .held := by
  cases m <;> first | exact .inl rfl | exact .inr rfl | cases running

/-- Settles O56: the feedback's changes, then each event that sets the line. -/
theorem contactorChecked : Obligations.ContactorChecked := by
  refine ⟨?_, fun s i g closed before ready cause => ?_⟩
  · rintro s t b ready rfl
    have taken : exec (.contactorFeedbackChange b) s =
        .next (s.contactorChange fun e => { e with feedbackClosed := b }) :=
      congrArg Host.Outcome.next (if_neg (by rw [ready]; nofun))
    rw [taken, contactorChange_eq]
    refine ⟨fun same => ?_, fun differs apart => ?_, fun differs agreed => ?_, fun timer => ?_, fun timer => ?_⟩
    · subst same
      simp [Engine.agrees]
    · have agree : s.engine.contactorClosed = s.engine.feedbackClosed :=
        (Bool.eq_not.mpr (Ne.symm apart)).trans (Bool.eq_not.mpr differs).symm
      simp [Engine.agrees, agree, differs]
    · have apart : s.engine.contactorClosed ≠ s.engine.feedbackClosed := by
        rw [← agreed]
        exact Ne.symm differs
      simp [Engine.agrees, agreed, apart]
      rfl
    · refine (next_event ready).trans (congrArg Host.Outcome.next (if_pos ?_))
      exact Option.isSome_iff_ne_none.mpr timer
    · exact (next_event ready).trans (congrArg Host.Outcome.next (if_neg (by rw [timer]; nofun)))
  · suffices checked : ∃ u, exec i s = .next u ∧ LineChecked closed s before u by
      obtain ⟨u, taken, line, feedback, kept, apart, agreed⟩ := checked
      exact ⟨u, taken, line, feedback, kept, apart, agreed⟩
    have served : s.engine.mode = .start ∨ isRunning s.engine.mode = true →
        s.engine.mode = .start ∨ s.engine.mode = .run ∨ s.engine.mode = .held := Or.imp_right isRunning_cases
    obtain ⟨rfl, rfl, rfl, stopped, valid, saving, clean⟩ | ⟨rfl, rfl, rfl, mode⟩ | ⟨rfl, rfl, rfl, mode⟩ |
      ⟨rfl, rfl, rfl, mode⟩ | ⟨rfl, rfl, rfl, off, dark⟩ := cause
    · exact ⟨_, exec_restart_taken ready stopped valid saving clean, (restartMoved_lineChecked s).answered _ _⟩
    · exact ⟨_, exec_forceFlash_entered ready (served mode), (safeEntry_lineChecked true _).of_raise.answered _ _⟩
    · exact ⟨_, exec_qualifierFlash_entered ready (served mode), (safeEntry_lineChecked true _).of_taking⟩
    · exact ⟨_, exec_forceOff_entered ready mode, (safeEntry_lineChecked false _).of_raise.answered _ _⟩
    · refine ⟨_, exec_conflictObserved_entered ready g ?_, (safeEntry_lineChecked false _).of_taking⟩
      cases entered : s.engine.mode
      case dark => exact absurd entered dark
      case supplyOff => exact absurd entered off
      all_goals simp

end Sys2Proof.Machine
end

section
/-! WRITE_PLAN (R61, R63, R64) and the substitution entries (R79 to R81). -/

namespace Sys2Proof.Machine

/-! ## The plan that a WRITE_PLAN brings -/

theorem flagArg_eq_some {n : Nat} {b : Bool} : flagArg n = some b ↔ n ≤ 1 ∧ b = decide (n = 1) := by
  obtain rfl | rfl | ⟨m, rfl⟩ : n = 0 ∨ n = 1 ∨ ∃ m, n = m + 2 := by
    rcases n with _ | _ | m
    · exact .inl rfl
    · exact .inr (.inl rfl)
    · exact .inr (.inr ⟨m, rfl⟩)
  · cases b <;> decide
  · cases b <;> decide
  · simp [flagArg, valueOf]

/-- The stage record that a stage's arguments spell (R61). -/
def stageRead (a : StageArgs) : Stage where
  set := a.set
  endPoint := a.endPoint
  stageMin := a.stageMin
  stageMax := a.stageMax
  demandDependent := decide (a.demandDependent = 1)
  elastic := decide (a.elastic = 1)

theorem stage_eq_some {a : StageArgs} {st : Stage} :
    StageArgs.stage a = some st ↔ (a.demandDependent ≤ 1 ∧ a.elastic ≤ 1) ∧ st = stageRead a := by
  simp only [StageArgs.stage, Option.bind_eq_bind, Option.bind_eq_some_iff, flagArg_eq_some, Option.pure_def,
    Option.some.injEq]
  constructor
  · rintro ⟨d, ⟨dFlag, rfl⟩, e, ⟨eFlag, rfl⟩, rfl⟩
    exact ⟨⟨dFlag, eFlag⟩, rfl⟩
  · rintro ⟨⟨dFlag, eFlag⟩, rfl⟩
    exact ⟨_, ⟨dFlag, rfl⟩, _, ⟨eFlag, rfl⟩, rfl⟩

theorem mapM_stage_eq_some {args : List StageArgs} {stages : List Stage} :
    args.mapM StageArgs.stage = some stages ↔
      (∀ a ∈ args, a.demandDependent ≤ 1 ∧ a.elastic ≤ 1) ∧ stages = args.map stageRead := by
  induction args generalizing stages with
  | nil => simp [eq_comm]
  | cons a rest ih =>
    simp only [List.mapM_cons, Option.bind_eq_bind, Option.bind_eq_some_iff, stage_eq_some, ih, Option.pure_def,
      Option.some.injEq, List.forall_mem_cons, List.map_cons]
    constructor
    · rintro ⟨st, ⟨flags, rfl⟩, sts, ⟨others, rfl⟩, rfl⟩
      exact ⟨⟨flags, others⟩, rfl⟩
    · rintro ⟨⟨flags, others⟩, rfl⟩
      exact ⟨_, ⟨flags, rfl⟩, _, ⟨others, rfl⟩, rfl⟩

theorem increasing_iff (stages : List Stage) :
    increasing stages = true ↔ stages.Pairwise fun a b => a.endPoint < b.endPoint := by
  have chain : increasing stages = true ↔ (stages.map Stage.endPoint).IsChain (· < ·) := by
    induction stages with
    | nil => simp [increasing]
    | cons a rest ih =>
      cases rest with
      | nil => simp [increasing]
      | cons b rest => simpa [increasing] using fun _ => ih
  rw [chain, List.isChain_iff_pairwise, List.pairwise_map]

/-- What R61 asks of a stage's arguments in a plan with a cycle time. -/
abbrev stageFits (cycle : Nat) (a : StageArgs) : Prop :=
  a.endPoint < cycle ∧ a.stageMin ≤ 600 ∧ a.stageMin ≤ a.stageMax ∧ a.stageMax ≤ 1200 ∧
    a.demandDependent ≤ 1 ∧ a.elastic ≤ 1 ∧ ¬ (a.elastic = 1 ∧ a.demandDependent = 1)

theorem planInRange_iff (cycle offset : Nat) (args : List StageArgs) :
    planInRange cycle offset (args.map stageRead) = true ↔
      (300 ≤ cycle ∧ cycle ≤ 2400) ∧ offset < cycle ∧ (2 ≤ args.length ∧ args.length ≤ 12) ∧
      (∀ a ∈ args, a.endPoint < cycle ∧ a.stageMin ≤ 600 ∧ a.stageMin ≤ a.stageMax ∧ a.stageMax ≤ 1200) ∧
      args.Pairwise (fun a a' => a.endPoint < a'.endPoint) ∧ args.countP (fun a => a.elastic == 1) = 1 ∧
      ∀ a ∈ args, ¬ (a.elastic = 1 ∧ a.demandDependent = 1) := by
  have elastic : ((args.map stageRead).filter fun st => st.elastic).length =
      args.countP fun a => a.elastic == 1 := by
    rw [← List.countP_eq_length_filter, List.countP_map]
    refine List.countP_congr fun a _ => ?_
    simp [stageRead]
  have fits : ∀ a : StageArgs, (stageRead a).inRange cycle = true ↔
      a.endPoint < cycle ∧ a.stageMin ≤ 600 ∧ a.stageMin ≤ a.stageMax ∧ a.stageMax ≤ 1200 := fun a => by
    simp only [Stage.inRange, Bool.and_eq_true, decide_eq_true_eq, and_assoc]
    rfl
  have apart : ∀ a : StageArgs, (!((stageRead a).elastic && (stageRead a).demandDependent)) = true ↔
      ¬ (a.elastic = 1 ∧ a.demandDependent = 1) := fun a => by
    simp only [stageRead, Bool.not_eq_true', Bool.and_eq_false_iff, decide_eq_false_iff_not, not_and_or]
  have points : ∀ a : StageArgs, (stageRead a).endPoint = a.endPoint := fun a => rfl
  simp only [planInRange, Bool.and_eq_true, beq_iff_eq, elastic, increasing_iff, List.pairwise_map, within_iff,
    decide_eq_true_eq, List.length_map, List.all_map, List.all_eq_true, Function.comp_apply, fits, apart, points, and_assoc]

/-- The plan record that a WRITE_PLAN's arguments spell (R61, R172). -/
def planRead (cycle offset sync dim count : Nat) (args : List StageArgs) : Plan where
  cycle := cycle
  offset := offset
  sync := decide (sync = 1)
  dim := decide (dim = 1)
  count := count
  stages := stageBank (args.map stageRead)
  validity := .valid

/-- A plan is taken exactly when its arguments lie within R61, and is then what they spell. -/
theorem wholePlan_eq_some {cycle offset sync dim count : Nat} {args : List StageArgs} {plan : Plan} :
    wholePlan cycle offset sync dim count args = some plan ↔
      (300 ≤ cycle ∧ cycle ≤ 2400 ∧ offset < cycle ∧ sync ≤ 1 ∧ dim ≤ 1 ∧ 2 ≤ count ∧ count ≤ 12 ∧ args.length = count ∧
        (∀ a ∈ args, stageFits cycle a) ∧ args.Pairwise (fun a a' => a.endPoint < a'.endPoint) ∧
        args.countP (fun a => a.elastic == 1) = 1) ∧
      plan = planRead cycle offset sync dim count args := by
  simp only [wholePlan, Option.bind_eq_bind, Option.bind_eq_some_iff, flagArg_eq_some, mapM_stage_eq_some]
  constructor
  · rintro ⟨sy, ⟨syncFlag, rfl⟩, di, ⟨dimFlag, rfl⟩, st, ⟨flags, rfl⟩, built⟩
    split at built
    case isFalse => cases built
    next both =>
    obtain ⟨length, range⟩ := both
    obtain rfl := Option.some.inj built
    rw [List.length_map] at length
    obtain ⟨⟨least, most⟩, off, ⟨two, twelve⟩, fits, order, elastic, demand⟩ := (planInRange_iff _ _ _).mp range
    rw [length] at two twelve
    refine ⟨⟨least, most, off, syncFlag, dimFlag, two, twelve, length, fun a member => ?_, order, elastic⟩, rfl⟩
    obtain ⟨point, low, high, top⟩ := fits a member
    exact ⟨point, low, high, top, (flags a member).1, (flags a member).2, demand a member⟩
  · rintro ⟨⟨least, most, off, syncFlag, dimFlag, two, twelve, length, fits, order, elastic⟩, rfl⟩
    refine ⟨_, ⟨syncFlag, rfl⟩, _, ⟨dimFlag, rfl⟩, _, ⟨fun a member => ?_, rfl⟩, ?_⟩
    · obtain ⟨-, -, -, -, d, e, -⟩ := fits a member
      exact ⟨d, e⟩
    · refine (if_pos ⟨by rw [List.length_map]; exact length, (planInRange_iff _ _ _).mpr ?_⟩).trans rfl
      rw [length]
      refine ⟨⟨least, most⟩, off, ⟨two, twelve⟩, fun a member => ?_, order, elastic, fun a member => ?_⟩
      · obtain ⟨point, low, high, top, -⟩ := fits a member
        exact ⟨point, low, high, top⟩
      · obtain ⟨-, -, -, -, -, -, demand⟩ := fits a member
        exact demand

/-- The stages of a plan read are those of its arguments, in order. -/
theorem planRead_stage {cycle offset sync dim count k : Nat} {args : List StageArgs} (inside : k < args.length)
    (room : args.length ≤ 12) : (planRead cycle offset sync dim count args).stage (k + 1) = stageRead args[k] := by
  have place : numbered 12 (k + 1) = some (⟨k, by omega⟩ : Fin 12) := numbered_val_add_one (⟨k, by omega⟩ : Fin 12)
  rw [Plan.stage, place]
  simp [planRead, stageBank, inside]

/-- A list with one member that meets a test meets it at one place alone. -/
theorem exists_unique_of_countP_eq_one {α : Type} {p : α → Bool} {l : List α} (one : l.countP p = 1) :
    ∃ k, ∃ inside : k < l.length, p l[k] = true ∧ ∀ j, (h : j < l.length) → p l[j] = true → j = k := by
  induction l with
  | nil => cases one
  | cons a rest ih =>
    by_cases first : p a = true
    · rw [List.countP_cons_of_pos first] at one
      have none : ∀ b ∈ rest, ¬ p b = true := List.countP_eq_zero.mp (by omega)
      refine ⟨0, by simp, first, fun j h meets => ?_⟩
      cases j with
      | zero => rfl
      | succ j => exact absurd meets (none _ (List.getElem_mem (by simpa using h)))
    · rw [List.countP_cons_of_neg first] at one
      obtain ⟨k, inside, meets, unique⟩ := ih one
      refine ⟨k + 1, by simpa using inside, meets, fun j h found => ?_⟩
      cases j with
      | zero => exact absurd found first
      | succ j => rw [unique j (by simpa using h) found]

end Sys2Proof.Machine
end

section
/-! The requests WRITE_PLAN (R63, R64), WRITE_SUBST, ENABLE_SUBST and DISABLE_SUBST (R79 to R81), and the running stage. -/

namespace Sys2Proof.Machine

/-! ## WRITE_PLAN -/

theorem exec_writePlan {s : State} (ready : s.loading = false) (part : PlanPart) :
    exec (.writePlan part) s = .next ((reqWritePlan part s).1.respond .plan 17 (reqWritePlan part s).2) :=
  congrArg Host.Outcome.next (serve_permitted ready rfl)

theorem inUse_iff {q : Sequencer} {p : PlanId} : q.inUse p = true ↔ q.inForce = p ∨ q.pendingPlan = some p := by
  simp [Sequencer.inUse]

/-- A write completed with a field out of range (R64). -/
theorem completePlan_range {p : PlanId} {cy off sy di n : Nat} {st : List StageArgs} (s : State)
    (outside : wholePlan cy off sy di n st = none) :
    s.completePlan p cy off sy di n st = refuse .range (s.onSeq fun q => { q with staging := none }) := by
  rw [State.completePlan, outside]

/-- A write completed with every field in range: refused for a conflicting pair, or the plan record is replaced (R64). -/
theorem completePlan_whole {p : PlanId} {cy off sy di n : Nat} {st : List StageArgs} {plan : Plan} {s t : State}
    (emptied : t = s.onSeq fun q => { q with staging := none }) (whole : wholePlan cy off sy di n st = some plan) :
    s.completePlan p cy off sy di n st =
      if st.all fun x => s.conflictFree x.set then okay (t.onSeq fun q => { q with plans := put q.plans p plan })
      else refuse .conflict t := by
  subst emptied
  have same : (s.onSeq fun q => { q with staging := none }).conflictFree = s.conflictFree :=
    conflictFree_of_same rfl
  rw [State.completePlan, whole, ← same]

section
variable {s : State}

theorem reqWritePlan_busy (saving : s.saving = true) (part : PlanPart) : reqWritePlan part s = refuse .busy s :=
  if_pos saving

theorem reqWritePlan_unnamed (saving : s.saving = false) {part : PlanPart} (unnamed : PlanPart.plan? part = none) :
    reqWritePlan part s = refuse .range s := by
  rw [reqWritePlan, if_neg (by rw [saving]; nofun), unnamed]

theorem reqWritePlan_inUse (saving : s.saving = false) {part : PlanPart} {p : PlanId}
    (named : PlanPart.plan? part = some p) (used : s.seq.inUse p = true) : reqWritePlan part s = refuse .inUse s := by
  rw [reqWritePlan, if_neg (by rw [saving]; nofun), named]
  exact if_pos used

theorem reqWritePlan_one (saving : s.saving = false) {p : PlanId} (free : ¬ s.seq.inUse p = true)
    (cy off sy di n : Nat) (st : List StageArgs) :
    reqWritePlan (.one (p.val + 1) cy off sy di n st) s = s.takePlanPartOne p cy off sy di n st := by
  have named : PlanPart.plan? (.one (p.val + 1) cy off sy di n st) = some p := numbered_val_add_one p
  rw [reqWritePlan, if_neg (by rw [saving]; nofun), named]
  exact if_neg free

theorem reqWritePlan_two (saving : s.saving = false) {p : PlanId} (free : ¬ s.seq.inUse p = true)
    (st : List StageArgs) : reqWritePlan (.two (p.val + 1) st) s = s.takePlanPartTwo p st := by
  have named : PlanPart.plan? (.two (p.val + 1) st) = some p := numbered_val_add_one p
  rw [reqWritePlan, if_neg (by rw [saving]; nofun), named]
  exact if_neg free

end

/-- The figures of a plan taken lie within R61, its stages in order and one of them elastic. -/
theorem wholePlan_figures {cy off sy di n : Nat} {st : List StageArgs} {plan : Plan}
    (taken : wholePlan cy off sy di n st = some plan) :
    plan.cycle = cy ∧ plan.offset = off ∧ plan.count = n ∧ plan.validity = .valid ∧ st.length = n ∧
    300 ≤ cy ∧ cy ≤ 2400 ∧ off < cy ∧ 2 ≤ n ∧ n ≤ 12 ∧
    (∀ k, 1 ≤ k → k ≤ n → (plan.stage k).endPoint < cy ∧ (plan.stage k).stageMin ≤ 600 ∧
      (plan.stage k).stageMin ≤ (plan.stage k).stageMax ∧ (plan.stage k).stageMax ≤ 1200 ∧
      ((plan.stage k).elastic = true → (plan.stage k).demandDependent = false) ∧
      (k < n → (plan.stage k).endPoint < (plan.stage (k + 1)).endPoint)) ∧
    (∃ k, 1 ≤ k ∧ k ≤ n ∧ (plan.stage k).elastic = true ∧
      ∀ j, 1 ≤ j → j ≤ n → (plan.stage j).elastic = true → j = k) := by
  obtain ⟨⟨least, most, offset, -, -, two, twelve, length, fits, order, elastic⟩, rfl⟩ := wholePlan_eq_some.mp taken
  have stage : ∀ k (inside : k < st.length),
      (planRead cy off sy di n st).stage (k + 1) = stageRead st[k] := fun k inside =>
    planRead_stage inside (by omega)
  refine ⟨rfl, rfl, rfl, rfl, length, least, most, offset, two, twelve, fun k low high => ?_, ?_⟩
  · obtain ⟨k, rfl⟩ : ∃ m, k = m + 1 := ⟨k - 1, by omega⟩
    have inside : k < st.length := by omega
    obtain ⟨point, small, ordered, top, -, -, apart⟩ := fits _ (List.getElem_mem inside)
    rw [stage k inside]
    refine ⟨point, small, ordered, top, fun stretch => ?_, fun more => ?_⟩
    · exact decide_eq_false fun demand => apart ⟨of_decide_eq_true stretch, demand⟩
    · rw [stage (k + 1) (by omega)]
      exact List.pairwise_iff_getElem.mp order k (k + 1) inside (by omega) (Nat.lt_succ_self k)
  · obtain ⟨k, inside, meets, unique⟩ := exists_unique_of_countP_eq_one elastic
    refine ⟨k + 1, by omega, by omega, ?_, fun j low high found => ?_⟩
    · rw [stage k inside]
      exact decide_eq_true (beq_iff_eq.mp meets)
    · obtain ⟨j, rfl⟩ : ∃ m, j = m + 1 := ⟨j - 1, by omega⟩
      rw [stage j (by omega)] at found
      rw [unique j (by omega) (beq_iff_eq.mpr (of_decide_eq_true found))]

theorem planPart_unnamed {m cy off sy di n : Nat} {st : List StageArgs} {part : PlanPart}
    (outside : (m = 0 ∨ 8 < m) ∧ (part = .one m cy off sy di n st ∨ part = .two m st) ∨ part = .other m) :
    PlanPart.plan? part = none := by
  obtain ⟨number, rfl | rfl⟩ | rfl := outside
  · exact numbered_of_outside number
  · exact numbered_of_outside number
  · rfl

/-- Settles O37: the refusals in order, the two parts, and the plan that the arguments spell. -/
theorem writePlanTaken : Obligations.WritePlanTaken := by
  refine ⟨fun s t p cy off sy di n st ready saving emptied => ⟨fun used => ?_, fun inForce pending => ?_⟩,
    fun s part ready saving => ?_, fun s part m cy off sy di n st ready saving outside => ?_,
    fun cy off sy di n st plan taken => wholePlan_figures taken, fun cy off sy di n st plan => ?_⟩
  · have used : s.seq.inUse p = true := inUse_iff.mpr used
    rw [exec_writePlan ready, exec_writePlan ready, reqWritePlan_inUse saving (part := .one (p.val + 1) cy off sy di n st) (numbered_val_add_one p) used,
      reqWritePlan_inUse saving (part := .two (p.val + 1) st) (numbered_val_add_one p) used]
    exact ⟨rfl, rfl⟩
  · have free : ¬ s.seq.inUse p = true := fun used => (inUse_iff.mp used).elim inForce pending
    have one : ∀ st', exec (.writePlan (.two (p.val + 1) st')) s =
        .next ((s.takePlanPartTwo p st').1.respond .plan 17 (s.takePlanPartTwo p st').2) := fun st' => by
      rw [exec_writePlan ready, reqWritePlan_two saving free]
    rw [exec_writePlan ready, reqWritePlan_one saving free, one]
    refine ⟨fun long => ?_, fun short => ?_, fun g staged same long => ?_, fun unstaged => ?_⟩
    · rw [State.takePlanPartOne, if_neg (by omega)]
      rfl
    · rw [State.takePlanPartOne, if_pos short]
      cases whole : wholePlan cy off sy di n st with
      | none => rw [completePlan_range s whole, emptied]; rfl
      | some plan => rw [completePlan_whole emptied whole]; split <;> rfl
    · have completes : s.takePlanPartTwo p st =
          s.completePlan p g.cycle g.offset g.sync g.dim g.count (g.stages ++ st) := by
        rw [State.takePlanPartTwo, staged]
        exact if_pos ⟨same, long⟩
      rw [completes]
      cases whole : wholePlan g.cycle g.offset g.sync g.dim g.count (g.stages ++ st) with
      | none => rw [completePlan_range s whole, emptied]; rfl
      | some plan => rw [completePlan_whole emptied whole]; split <;> rfl
    · have refused : s.takePlanPartTwo p st = refuse .range s := by
        unfold State.takePlanPartTwo
        cases staged : s.seq.staging with
        | none => rfl
        | some g =>
          exact if_neg fun both => (unstaged g staged).elim (fun other => other both.1) fun short =>
            Nat.not_lt.mpr short both.2
      rw [refused]
      rfl
  · rw [exec_writePlan ready, reqWritePlan_busy saving]
    rfl
  · rw [exec_writePlan ready, reqWritePlan_unnamed saving (planPart_unnamed outside)]
    rfl
  · refine wholePlan_eq_some.trans (and_congr_right fun _ => Eq.congr_right ?_)
    unfold planRead
    congr 1
    refine congrArg Vector.ofFn (funext fun k => ?_)
    rw [List.getD_eq_getElem?_getD, List.getElem?_map]
    cases st[k.val]? <;> rfl

/-! ## Substitution entries -/

theorem substEntry_taken {m k lo hi d : Nat} {set : GroupSet} {p : PlanId} (named : m = p.val + 1) (low : 1 ≤ k)
    (high : k ≤ 12) (small : lo ≤ 600) (ordered : lo ≤ hi) (top : hi ≤ 1200) (flag : d ≤ 1) :
    substEntry m k set lo hi d = some (SubstEntry.mk p k set lo hi (d == 1) false) := by
  subst named
  have demand : flagArg d = some (d == 1) := flagArg_eq_some.mpr ⟨flag, by simp [beq_eq_decide]⟩
  simp [substEntry, planNumber, demand, within, low, high, small, ordered, top]

theorem substEntry_refused {m k lo hi d : Nat} {set : GroupSet}
    (outside : m = 0 ∨ 8 < m ∨ k = 0 ∨ 12 < k ∨ 600 < lo ∨ hi < lo ∨ 1200 < hi ∨ 1 < d) :
    substEntry m k set lo hi d = none := by
  by_cases number : m = 0 ∨ 8 < m
  · rw [substEntry, planNumber, numbered_of_outside number]
    rfl
  · unfold substEntry
    cases demand : flagArg d with
    | none => cases planNumber m <;> rfl
    | some b =>
      have flag := (flagArg_eq_some.mp demand).1
      have wrong : (within 1 12 k && within 0 600 lo && within lo 1200 hi) = false := by
        simp only [within, Bool.and_eq_false_iff, decide_eq_false_iff_not]
        omega
      cases planNumber m with
      | none => rfl
      | some p => exact if_neg (by rw [wrong]; nofun)

theorem otherEntry_eq {e other : EntryId} (apart : e ≠ other) : otherEntry e = other := by
  revert apart
  revert e other
  decide

section
variable {s : State} (ready : s.loading = false)
include ready

theorem exec_writeSubst (n m k : Nat) (set : GroupSet) (lo hi d : Nat) :
    exec (.writeSubst n m k set lo hi d) s =
      .next ((reqWriteSubst n m k set lo hi d s).1.respond .plan 22 (reqWriteSubst n m k set lo hi d s).2) :=
  congrArg Host.Outcome.next (serve_permitted ready rfl)

theorem exec_enableSubst (n : Nat) :
    exec (.enableSubst n) s = .next ((reqEnableSubst n s).1.respond .plan 23 (reqEnableSubst n s).2) :=
  congrArg Host.Outcome.next (serve_permitted ready rfl)

theorem exec_disableSubst (n : Nat) :
    exec (.disableSubst n) s = .next ((reqDisableSubst n s).1.respond .plan 24 (reqDisableSubst n s).2) :=
  congrArg Host.Outcome.next (serve_permitted ready rfl)

end

theorem covers_iff {e : SubstEntry} {q : Sequencer} {k : Nat} :
    e.covers q k = true ↔ e.enabled = true ∧ e.plan = q.inForce ∧ e.stage = k ∧ k ≤ q.plan.count := by
  simp [SubstEntry.covers, and_assoc]

/-- The running stage without a matching entry (R70). -/
theorem form_of_none {q : Sequencer} {k : Nat} (none : q.substFor k = none) :
    q.form k =
      { plan := q.inForce, index := k, set := (q.plan.stage k).set, endPoint := (q.plan.stage k).endPoint,
        precedingEnd := q.precedingEnd k, stageMin := (q.plan.stage k).stageMin, stageMax := (q.plan.stage k).stageMax,
        demandDependent := (q.plan.stage k).demandDependent, elastic := (q.plan.stage k).elastic,
        substituted := false } := by
  rw [Sequencer.form, none]

/-- The running stage that a matching entry forms (R70, R79). -/
theorem form_of_some {q : Sequencer} {k : Nat} {e : SubstEntry} (some : q.substFor k = some e) :
    q.form k =
      { plan := q.inForce, index := k, set := e.set, endPoint := (q.plan.stage k).endPoint,
        precedingEnd := q.precedingEnd k, stageMin := e.stageMin, stageMax := e.stageMax,
        demandDependent := e.demandFlag && !(q.plan.stage k).elastic, elastic := (q.plan.stage k).elastic,
        substituted := true } := by
  rw [Sequencer.form, some]

theorem substFor_none {q : Sequencer} {k : Nat} (free : ∀ e : EntryId, ¬ q.substs[e].covers q k = true) :
    q.substFor k = none :=
  (if_neg (free 0)).trans (if_neg (free 1))

theorem substFor_some {q : Sequencer} {k : Nat} {e : EntryId} (covers : q.substs[e].covers q k = true)
    (first : e = 0 ∨ ¬ q.substs[(0 : EntryId)].covers q k = true) : q.substFor k = some q.substs[e] := by
  have either : ∀ e : EntryId, e = 0 ∨ e = 1 := by decide
  obtain rfl | rfl := either e
  · exact if_pos covers
  · exact (if_neg (first.resolve_left (by decide))).trans (if_pos covers)

/-- Settles O39: the three requests with their refusals in order, then the stage formed with and without an entry. -/
theorem substitutionsTaken : Obligations.SubstitutionsTaken := by
  refine ⟨fun s e other p n m k lo hi d set ready apart => ⟨fun saving => ?_, fun saving => ?_⟩,
    fun q k st matching plain stage matches_iff plain_eq => ⟨fun none => ?_, fun e found first => ?_⟩⟩
  · rw [exec_writeSubst ready, exec_enableSubst ready, exec_disableSubst ready, reqWriteSubst, reqEnableSubst,
      reqDisableSubst, if_pos saving, if_pos saving, if_pos saving]
    exact ⟨rfl, rfl, rfl⟩
  · have idle : ¬ s.saving = true := by rw [saving]; nofun
    have entry : entryNumber (e.val + 1) = some e := numbered_val_add_one e
    rw [exec_enableSubst ready, exec_disableSubst ready, exec_writeSubst ready, exec_enableSubst ready,
      exec_disableSubst ready]
    unfold reqWriteSubst reqEnableSubst reqDisableSubst
    simp only [if_neg idle, entry]
    refine ⟨fun outside => ?_, fun outside => ?_, fun low high small ordered top flag => ?_, ?_, rfl⟩
    · by_cases number : n = 0 ∨ 2 < n
      · rw [entryNumber, numbered_of_outside number]
        rfl
      · rw [substEntry_refused (by omega)]
        cases entryNumber n <;> rfl
    · rw [entryNumber, numbered_of_outside outside]
      exact ⟨rfl, rfl⟩
    · obtain rfl := otherEntry_eq apart
      rw [exec_writeSubst ready, reqWriteSubst, if_neg idle, entry, substEntry_taken rfl low high small ordered top flag]
      simp only [Bool.not_eq_true']
      split_ifs <;> rfl
    · simp only [Bool.not_eq_true']
      split_ifs <;> rfl
  · have free : q.substFor k = Option.none := substFor_none fun e covers => none e ((matches_iff e).mpr (covers_iff.mp covers))
    rw [form_of_none free, plain_eq, stage]
    rfl
  · have some : q.substFor k = Option.some q.substs[e] := by
      refine substFor_some (covers_iff.mpr ((matches_iff e).mp found)) (first.imp_right fun free covers => ?_)
      exact free ((matches_iff 0).mpr (covers_iff.mp covers))
    rw [form_of_some some, plain_eq, stage]
    rfl

end Sys2Proof.Machine
end

section
/-! The sync input (R83 to R87, R92, R93) and the sequencer's tick (R68, R69, R72 to R76, R89 to R92). -/

namespace Sys2Proof.Machine

/-! ## Synchronisation -/

theorem filterExpiry_rising {s : State} (rising : s.seq.sync.filter = .rising) :
    s.filterExpiry = State.pulse (s.onSeq fun q => { q with sync := { q.sync with filter := .high, timer := none } }) :=
  if_pos rising

/-- A pulse counted where it is not measured (R85, R93). -/
theorem pulse_unmeasured {s : State} (unmeasured : isRunning s.engine.mode = false ∨ s.seq.plan.sync = false) :
    s.pulse = (s.clear .syncLost .none).onSeq fun q => { q with sync := { q.sync with lastPulse := some s.engine.clock } } := by
  refine if_neg fun both => ?_
  obtain ⟨running, sync⟩ := Bool.and_eq_true_iff.mp both
  obtain stopped | off := unmeasured
  · exact Bool.false_ne_true (stopped.symm.trans running)
  · exact Bool.false_ne_true (off.symm.trans sync)

/-- A pulse counted and measured (R85, R86, R93). -/
theorem pulse_measured {s : State} (running : isRunning s.engine.mode = true) (sync : s.seq.plan.sync = true) :
    s.pulse = ((s.clear .syncLost .none).onSeq fun q =>
      { q with sync := { q.sync with lastPulse := some s.engine.clock } }).onSeq (Sequencer.measure s.engine.clock) :=
  if_pos (Bool.and_eq_true_iff.mpr ⟨running, sync⟩)

/-- The error lies in (−C/2, C/2] and differs from the offset's distance by whole cycles (R85). -/
theorem syncError_spec (offset t : Nat) {cycle : Nat} (positive : 0 < cycle) :
    -(cycle : Int) < 2 * syncError offset cycle t ∧ 2 * syncError offset cycle t ≤ cycle ∧
      (cycle : Int) ∣ offset - t - syncError offset cycle t := by
  have least : 0 ≤ ((offset : Int) - t) % (cycle : Int) := Int.emod_nonneg _ (by omega)
  have most : ((offset : Int) - t) % (cycle : Int) < cycle := Int.emod_lt_of_pos _ (by omega)
  have whole : (cycle : Int) ∣ ((offset : Int) - t) - ((offset : Int) - t) % (cycle : Int) := Int.dvd_self_sub_emod
  have remainder : ((modPos ((offset : Int) - t) cycle : Nat) : Int) = ((offset : Int) - t) % (cycle : Int) :=
    Int.toNat_of_nonneg least
  unfold syncError
  dsimp only
  rw [remainder]
  split
  · next high =>
    refine ⟨by omega, by omega, ?_⟩
    have shifted := dvd_add whole (dvd_refl (cycle : Int))
    rwa [show ((offset : Int) - t) - ((offset : Int) - t) % (cycle : Int) + cycle =
      offset - t - (((offset : Int) - t) % (cycle : Int) - cycle) by ring] at shifted
  · exact ⟨by omega, by omega, whole⟩

/-- Settles O41: the filter's two edges, the pulse measured or not, the watch and the correction's end. -/
theorem syncTaken : Obligations.SyncTaken := by
  intro s ready
  refine ⟨?_, ?_, fun rising unmeasured => ?_, fun rising running sync positive => ?_, fun watch run_out => ?_,
    fun applying none => ?_⟩
  · refine (congrArg Host.Outcome.next ?_ : exec .syncInputRise s = _)
    unfold SyncRecord.rise
    rw [ready]
    cases filter : s.seq.sync.filter <;> simp [State.onSeq, filter]
  · refine (congrArg Host.Outcome.next ?_ : exec .syncInputFall s = _)
    rw [ready]
    rfl
  · refine (next_event ready).trans (congrArg Host.Outcome.next ?_)
    rw [filterExpiry_rising rising, pulse_unmeasured (by exact unmeasured)]
    rfl
  · obtain ⟨least, most, whole⟩ := syncError_spec s.seq.plan.offset s.seq.cycleTimer positive
    have taken : exec .countedPulse s = .next s.filterExpiry := next_event ready
    rw [filterExpiry_rising rising, pulse_measured (by exact running) (by exact sync)] at taken
    refine ⟨_, syncError s.seq.plan.offset s.seq.plan.cycle s.seq.cycleTimer, taken, least, most, whole, rfl,
      fun small => ?_, fun large => ?_, rfl⟩
    · exact if_pos small
    · exact if_neg (Nat.not_le.mpr large)
  · refine (next_event ready).trans (congrArg Host.Outcome.next (if_pos ?_))
    simp [State.watchOver, watch, run_out]
  · refine (next_event ready).trans (congrArg Host.Outcome.next ((if_pos ?_).trans ?_))
    · simp [Correction.spent, applying, none]
    · rw [State.onSeq, State.onSeq, Correction.drop, ← none]

/-! ## The tick's own time -/

/-- The sequencer after parts 1 and 2 of a tick (R68, R72, R89 to R91). -/
theorem stepped_eq {mode : Mode} {q : Sequencer} {moved timer : Nat} {c : Correction}
    (moved_eq : moved = if mode = .run then
        q.cycleTimer + (if q.correction.state = .applying then
          (if q.correction.direction = .shorten then 2 else 0) else 1)
      else if mode = .held then q.cycleTimer else 0)
    (timer_eq : timer = if mode = .run ∧ q.state = .timing then min 65535 (q.stageTimer + 1) else q.stageTimer)
    (c_eq : c = if mode = .run ∧ q.correction.state = .applying then
        (if q.correction.remaining ≤ 1 then { q.correction with state := .none, remaining := 0 }
         else { q.correction with remaining := q.correction.remaining - 1 })
      else q.correction) :
    (q.stepTimer mode).stepStage mode = { q with cycleTimer := moved, stageTimer := timer, correction := c } := by
  have stage : ∀ p : Sequencer, p.state = q.state → p.stageTimer = q.stageTimer →
      p.stepStage mode = { p with stageTimer := timer } := fun p state before => by
    rw [timer_eq, ← state, ← before, Sequencer.stepStage, saturate]
    split <;> rfl
  unfold Sequencer.stepTimer
  cases mode
  case run =>
    dsimp only
    rw [if_pos rfl] at moved_eq
    by_cases applying : q.correction.state = .applying
    · have advanced : c = q.correction.advance := c_eq.trans (if_pos ⟨rfl, applying⟩)
      rw [if_pos applying, stage _ (by rfl) (by rfl), advanced, moved_eq, if_pos applying]
      cases q.correction.direction <;> rfl
    · have kept : c = q.correction := c_eq.trans (if_neg fun both => applying both.2)
      rw [if_neg applying, stage _ (by rfl) (by rfl), moved_eq, kept, if_neg applying]
  all_goals
    subst moved_eq c_eq
    rw [stage _ (by rfl) (by rfl)]
    rfl

theorem wrapped_iff {q : Sequencer} : q.wrapped = true ↔ 0 < q.plan.cycle ∧ q.plan.cycle ≤ q.cycleTimer := by
  simp [Sequencer.wrapped]

/-! ## The wrap -/

/-- The sequencer once a pending plan has come into force (R69, R91, R92). -/
theorem takePlan_eq (p : PlanId) (clock : Clock) (q : Sequencer) :
    q.takePlan p clock =
      { q with
        inForce := p
        pendingPlan := none
        stageIndex := 1
        extensionEnd := 0
        deferred := false
        correction := { q.correction with state := .none, remaining := 0 }
        sync := if q.plans[p].sync = false then { q.sync with watch := .inactive }
                else if q.plan.sync = false then { q.sync with watch := .running, watchStart := clock }
                else q.sync } := by
  have off : ∀ b : Bool, (!b) = true ↔ b = false := by decide
  by_cases unsynced : q.plans[p].sync = false
  · rw [if_pos unsynced]
    exact if_pos ((off _).mpr unsynced)
  · rw [if_neg unsynced]
    refine (if_neg (mt (off _).mp unsynced)).trans ?_
    by_cases before : q.plan.sync = false
    · rw [if_pos before]
      exact if_pos ((off _).mpr before)
    · rw [if_neg before]
      exact if_neg (mt (off _).mp before)

/-- Stage 1 of the plan that came into force: requested when its set differs from that of the latest request, and
otherwise in the running stage's place (R69). -/
def State.stageOneTaken (u : State) : State :=
  if (u.seq.form 1).set = u.seq.latest.set then u.onSeq fun q => { q with running := u.seq.form 1 }
  else u.issueRequest 1

theorem stageOneTaken_eq (u : State) :
    u.stageOneTaken =
      { u with
        outbox := u.outbox ++ (if (u.seq.form 1).set = u.seq.latest.set then [] else [.stageRequest
          { set := (u.seq.form 1).set, tag := ⟨u.seq.inForce, 1, (u.seq.form 1).substituted, u.seq.cycleTimer⟩ }])
        seq := if (u.seq.form 1).set = u.seq.latest.set then { u.seq with running := u.seq.form 1 }
          else
            { u.seq with
              stageIndex := 1
              running := u.seq.form 1
              extensionEnd := 0
              deferred := false
              stageTimer := 0
              latest := { set := (u.seq.form 1).set,
                          tag := some ⟨u.seq.inForce, 1, (u.seq.form 1).substituted, u.seq.cycleTimer⟩ }
              state := .awaiting } } := by
  unfold State.stageOneTaken
  by_cases same : (u.seq.form 1).set = u.seq.latest.set
  · rw [if_pos same, if_pos same, if_pos same, List.append_nil]
    rfl
  · rw [if_neg same, if_neg same, if_neg same]
    rfl

/-- A plan taken at the wrap, in its four parts (R69). -/
theorem changePlan_parts {p : PlanId} {s v u : State} (v_eq : v = s.onSeq (Sequencer.takePlan p s.engine.clock))
    (u_eq : u = (v.setDim v.seq.plan.dim).stageOneTaken) :
    s.changePlan p = u.record (.plan u.seq.inForce u.seq.cycleTimer) := by
  subst u_eq v_eq
  rfl

/-- A plan taken at the wrap: the dim line, the PLAN entry, and stage 1 requested when its set differs from that of the
latest request (R69). -/
theorem changePlan_eq {p : PlanId} {s : State} {q : Sequencer} {first : RunningStage}
    (q_eq : q = s.seq.takePlan p s.engine.clock) (first_eq : first = q.form 1) :
    s.changePlan p =
      { s with
        engine.dimOn := s.seq.plans[p].dim
        history := s.history.take s.nowSec (.plan p q.cycleTimer)
        outbox := s.outbox ++
          (if s.engine.dimOn = s.seq.plans[p].dim then [] else [.dimChange s.seq.plans[p].dim]) ++
          (if first.set = s.seq.latest.set then [] else [.stageRequest
            { set := first.set, tag := ⟨p, 1, first.substituted, q.cycleTimer⟩ }])
        seq := if first.set = s.seq.latest.set then { q with running := first }
          else
            { q with
              running := first
              stageTimer := 0
              latest := { set := first.set, tag := some ⟨p, 1, first.substituted, q.cycleTimer⟩ }
              state := .awaiting } } := by
  have kept : q.plan.dim = s.seq.plans[p].dim ∧ q.inForce = p ∧ q.latest = s.seq.latest ∧ q.stageIndex = 1 ∧
      q.extensionEnd = 0 ∧ q.deferred = false := by
    rw [q_eq, takePlan_eq]
    exact ⟨rfl, rfl, rfl, rfl, rfl, rfl⟩
  obtain ⟨dim, plan, latest, index, extension, deferred⟩ := kept
  rw [changePlan_parts (v := { s with seq := q }) (by rw [q_eq, State.onSeq]) rfl, setDim_eq, stageOneTaken_eq]
  dsimp only [State.record, State.onHistory]
  rw [dim, latest, ← first_eq, plan]
  by_cases same : first.set = s.seq.latest.set
  · rw [if_pos same, if_pos same, if_pos same]
    rfl
  · rw [if_neg same, if_neg same, if_neg same, index, extension, deferred]
    rfl

/-- What a tick's wrap can move (R68, R69). -/
theorem wrap_only (s : State) :
    s.wrap = { s with engine.dimOn := s.wrap.engine.dimOn, seq := s.wrap.seq, outbox := s.wrap.outbox,
                      history := s.wrap.history } := by
  unfold State.wrap
  split
  · dsimp only
    split
    · rw [changePlan_eq rfl rfl]
      rfl
    · rfl
  · rfl

/-! ## The end of the running stage -/

/-- The history once every stage of a list has been skipped behind a stage (R75, R164). -/
def State.skipsEntered (s : State) (ended : Nat) (stages : List Nat) : History :=
  stages.foldl (fun h j => h.take s.nowSec (.skip s.seq.inForce ended j s.seq.cycleTimer)) s.history

/-- The first stage that is not skipped is requested, each one before it making its entry (R75). -/
theorem chooseNext_found (ended : Nat) {passed later : List Nat} {k : Nat} {s : State}
    (skipped : ∀ j ∈ passed, s.seq.skips j = true) (taken : s.seq.skips k = false) :
    s.chooseNext ended (passed ++ k :: later) =
      State.issueRequest k { s with history := s.skipsEntered ended passed } := by
  induction passed generalizing s with
  | nil => exact if_neg (by rw [taken]; nofun)
  | cons j rest ih =>
    obtain ⟨here, rest_skipped⟩ := List.forall_mem_cons.mp skipped
    exact (if_pos here).trans (ih (by exact rest_skipped) (by exact taken))

/-- With every stage skipped the running stage is deferred (R76). -/
theorem chooseNext_deferred (ended : Nat) {stages : List Nat} {s : State}
    (skipped : ∀ j ∈ stages, s.seq.skips j = true) :
    s.chooseNext ended stages = { s with history := s.skipsEntered ended stages, seq.deferred := true } := by
  induction stages generalizing s with
  | nil => rfl
  | cons j rest ih =>
    obtain ⟨here, rest_skipped⟩ := List.forall_mem_cons.mp skipped
    exact (if_pos here).trans (ih (by exact rest_skipped))

theorem chooseNext_engine (ended : Nat) (stages : List Nat) (s : State) : (s.chooseNext ended stages).engine = s.engine := by
  induction stages generalizing s with
  | nil => rfl
  | cons j rest ih =>
    unfold State.chooseNext
    split
    · rw [ih]
      rfl
    · rfl

theorem testEnding_engine (s : State) : s.testEnding.engine = s.engine := by
  unfold State.testEnding
  split
  · exact chooseNext_engine _ _ _
  · rfl

/-- The deferral's test, as a flag written (R76). -/
theorem testDeferral_eq (before : Nat) (q : Sequencer) :
    q.testDeferral before = { q with deferred := q.deferred && !q.roundAgain before } := by
  unfold Sequencer.testDeferral
  split
  · next both =>
    obtain ⟨deferred, round⟩ := Bool.and_eq_true_iff.mp both
    rw [deferred, round]
    rfl
  · next not_both =>
    have kept : (q.deferred && !q.roundAgain before) = q.deferred := by
      cases deferred : q.deferred
      · rfl
      · rw [deferred, Bool.true_and, Bool.not_eq_true] at not_both
        rw [not_both]
        rfl
    rw [kept]

theorem stageEnds_iff {q : Sequencer} :
    q.stageEnds = true ↔ q.deferred = false ∧ (q.running.stageMax ≤ q.stageTimer ∨
      q.running.due q.plan.cycle q.cycleTimer = true ∧ q.running.stageMin ≤ q.stageTimer ∧
        q.extensionEnd ≤ q.stageTimer) := by
  simp [Sequencer.stageEnds, and_assoc]

theorem skips_iff {q : Sequencer} {k : Nat} :
    q.skips k = true ↔ (q.form k).demandDependent = true ∧ q.latched k = false := by
  simp [Sequencer.skips]

/-- The deferral's test moves the flag alone (R76). -/
theorem onSeq_testDeferral (before : Nat) (v : State) :
    v.onSeq (Sequencer.testDeferral before) =
      { v with seq.deferred := v.seq.deferred && !v.seq.roundAgain before } := by
  rw [State.onSeq, testDeferral_eq]

/-- Where the running stage does not end, the deferral's test is all (R76). -/
theorem testEnding_still {v : State} {before : Nat}
    (still : ¬ (v.engine.mode = .run ∧ v.seq.state = .timing ∧ (v.seq.testDeferral before).stageEnds = true)) :
    (v.onSeq (Sequencer.testDeferral before)).testEnding =
      { v with seq.deferred := v.seq.deferred && !v.seq.roundAgain before } := by
  rw [testDeferral_eq] at still
  rw [onSeq_testDeferral]
  exact if_neg still

/-- Where the running stage ends, the next one is chosen (R74, R75). -/
theorem testEnding_ends {v : State} {before : Nat} (run : v.engine.mode = .run) (timing : v.seq.state = .timing)
    (ends : (v.seq.testDeferral before).stageEnds = true) :
    (v.onSeq (Sequencer.testDeferral before)).testEnding =
      State.chooseNext v.seq.stageIndex (followers v.seq.plan.count v.seq.stageIndex)
        { v with seq.deferred := v.seq.deferred && !v.seq.roundAgain before } := by
  rw [testDeferral_eq] at ends
  rw [onSeq_testDeferral]
  exact if_pos ⟨run, timing, ends⟩

/-- The running stage's end after the deferral's test (R74, R76). -/
theorem stageEnds_testDeferral {q : Sequencer} {before : Nat} :
    (q.testDeferral before).stageEnds = true ↔
      (q.deferred = true → q.roundAgain before = true) ∧ (q.running.stageMax ≤ q.stageTimer ∨
        q.running.due q.plan.cycle q.cycleTimer = true ∧ q.running.stageMin ≤ q.stageTimer ∧
          q.extensionEnd ≤ q.stageTimer) := by
  rw [testDeferral_eq, stageEnds_iff]
  refine and_congr ?_ Iff.rfl
  dsimp only
  cases q.deferred <;> cases q.roundAgain before <;> decide

theorem watchOver_iff {w : State} :
    w.watchOver = true ↔
      w.seq.sync.watch = .running ∧ 3 * w.seq.plan.cycle ≤ elapsed w.engine.clock w.seq.sync.watchStart := by
  simp [State.watchOver]

theorem wrap_short {s : State} (short : s.seq.wrapped = false) : s.wrap = s := if_neg (by rw [short]; nofun)

theorem wrap_free {s : State} (wrapped : s.seq.wrapped = true) (free : s.seq.pendingPlan = none) :
    s.wrap = { s with seq.cycleTimer := s.seq.cycleTimer - s.seq.plan.cycle } := by
  refine (if_pos wrapped).trans ?_
  dsimp only [State.onSeq]
  rw [free]

theorem wrap_pending {s : State} {p : PlanId} (wrapped : s.seq.wrapped = true) (pending : s.seq.pendingPlan = some p) :
    s.wrap = State.changePlan p { s with seq.cycleTimer := s.seq.cycleTimer - s.seq.plan.cycle } := by
  refine (if_pos wrapped).trans ?_
  dsimp only [State.onSeq]
  rw [pending]

theorem exec_sequencerTick {s t : State} (ready : s.loading = false) (taken : t = s.taking .sequencerTick) :
    exec .sequencerTick s = .next t.tick := by
  subst taken
  exact next_event ready

/-- Settles O40: the tick in its parts, each named by the state it leaves. -/
theorem tickMovesSequence : Obligations.TickMovesSequence := by
  intro s t moved timer c ready taken moved_eq timer_eq c_eq
  have same : t.engine = s.engine ∧ t.seq = s.seq ∧ t.history = s.history ∧ t.uptimeMs = s.uptimeMs := by
    rw [taken]
    exact ⟨rfl, rfl, rfl, rfl⟩
  obtain ⟨engine, seq, history, uptime⟩ := same
  have now : t.nowSec = s.nowSec := by rw [State.nowSec, State.nowSec, uptime]
  obtain ⟨stepped, stepped_is⟩ : ∃ q : Sequencer, q = { s.seq with cycleTimer := moved, stageTimer := timer, correction := c } :=
    ⟨_, rfl⟩
  have timed : (t.onSeq (Sequencer.stepTimer t.engine.mode)).onSeq (Sequencer.stepStage t.engine.mode) =
      { t with seq := stepped } := by
    rw [stepped_is, ← stepped_eq moved_eq timer_eq c_eq, ← engine, ← seq]
    rfl
  obtain ⟨v, v_eq⟩ : ∃ v, v = State.wrap { t with seq := stepped } := ⟨_, rfl⟩
  obtain ⟨w, w_eq⟩ : ∃ w, w = (v.onSeq (Sequencer.testDeferral s.seq.cycleTimer)).testEnding := ⟨_, rfl⟩
  have ticked : t.tick = (if w.watchOver then w.expireWatch else w).present := by
    rw [w_eq, v_eq, ← timed, ← seq]
    rfl
  have v_engine : v.engine.mode = s.engine.mode ∧ v.engine.clock = s.engine.clock ∧ v.nowSec = s.nowSec := by
    rw [v_eq, wrap_only, ← now, ← engine]
    exact ⟨rfl, rfl, rfl⟩
  obtain ⟨mode, clock, v_now⟩ := v_engine
  have w_clock : w.engine.clock = s.engine.clock := by rw [w_eq, testEnding_engine, ← clock]; rfl
  refine ⟨v, w, if w.watchOver then w.expireWatch else w, fun short => ?_, fun positive long wrapped wrapped_eq => ?_, ?_,
    fun watch run_out => ?_, fun still => ?_, ?_⟩
  · rw [v_eq, stepped_is, wrap_short]
    refine Bool.eq_false_iff.mpr fun wraps => ?_
    obtain ⟨some_cycle, reached⟩ := wrapped_iff.mp wraps
    exact short.elim (Nat.ne_of_gt some_cycle) (Nat.not_lt.mpr reached)
  · have wraps : stepped.wrapped = true := by
      rw [stepped_is]
      exact wrapped_iff.mpr ⟨positive, long⟩
    refine ⟨fun free => ?_, fun p q first pending q_eq first_eq => ?_⟩
    · rw [v_eq, wrap_free wraps (by rw [stepped_is]; exact free), stepped_is, wrapped_eq]
      rfl
    · have shortened : { stepped with cycleTimer := stepped.cycleTimer - stepped.plan.cycle } = wrapped := by
        rw [stepped_is, wrapped_eq]
        rfl
      have into_force : q = wrapped.takePlan p s.engine.clock := by
        rw [q_eq, takePlan_eq, wrapped_eq]
        rfl
      rw [v_eq, wrap_pending wraps (by rw [stepped_is]; exact pending), shortened,
        changePlan_eq (into_force.trans (by rw [← engine])) first_eq]
      have kept : wrapped.plans = s.seq.plans ∧ wrapped.latest = s.seq.latest := by
        rw [wrapped_eq]
        exact ⟨rfl, rfl⟩
      obtain ⟨plans, latest⟩ := kept
      have moment : State.nowSec { t with seq := wrapped } = s.nowSec := now
      dsimp only
      rw [moment, plans, latest, engine, history]
  · intro past due round ends order skipped past_eq due_iff round_iff ends_iff order_eq skipped_iff
    have round_is : round ↔ v.seq.roundAgain s.seq.cycleTimer = true := by
      rw [round_iff, past_eq]
      exact decide_eq_true_iff.symm
    have due_is : due ↔ v.seq.running.due v.seq.plan.cycle v.seq.cycleTimer = true := by
      rw [due_iff, past_eq]
      exact decide_eq_true_iff.symm
    have ends_is : ends ↔ v.engine.mode = .run ∧ v.seq.state = .timing ∧
        (v.seq.testDeferral s.seq.cycleTimer).stageEnds = true := by
      rw [ends_iff, mode, stageEnds_testDeferral, round_is, due_is]
    have skipped_is : ∀ k, skipped k ↔ v.seq.skips k = true := fun k => by rw [skipped_iff, skips_iff]
    obtain rfl : order = followers v.seq.plan.count v.seq.stageIndex := order_eq
    rw [w_eq, ← v_now]
    refine ⟨fun still => ?_, fun ending passed later k split_at passed_skipped taken_k => ?_, fun ending all_skipped => ?_⟩
    · rw [testEnding_still (mt ends_is.mpr still), round_is]
      refine ⟨fun round => ?_, fun on => ?_⟩
      · rw [round, Bool.not_true, Bool.and_false]
      · rw [Bool.eq_false_iff.mpr on, Bool.not_false, Bool.and_true]
    · obtain ⟨run, timing, run_out⟩ := ends_is.mp ending
      rw [testEnding_ends run timing run_out, split_at]
      exact chooseNext_found _ (fun j mem => (skipped_is j).mp (passed_skipped j mem))
        (Bool.eq_false_iff.mpr (mt (skipped_is k).mpr taken_k))
    · obtain ⟨run, timing, run_out⟩ := ends_is.mp ending
      rw [testEnding_ends run timing run_out]
      exact chooseNext_deferred _ fun j mem => (skipped_is j).mp (all_skipped j mem)
  · exact if_pos (watchOver_iff.mpr ⟨watch, by rw [w_clock]; exact run_out⟩)
  · refine if_neg fun expired => ?_
    obtain ⟨watch, run_out⟩ := watchOver_iff.mp expired
    rw [w_clock] at run_out
    exact still.elim (fun idle => idle watch) (Nat.not_lt.mpr run_out)
  · rw [exec_sequencerTick ready taken, ticked]

end Sys2Proof.Machine
end

section
/-! What a selection takes (R130, R137, R138), and the requests that command the Cable Test Unit (R131 to R136). -/

namespace Sys2Proof.Machine

/-! ## The queue's part of a selection -/

theorem markSeen_eq (elig : CoreId → Bool) (queue : List QueueEntry) :
    markSeen elig queue = queue.map fun e => { e with seenEligible := e.seenEligible || elig e.core } := by
  refine List.map_congr_left fun e _ => ?_
  cases eligible : elig e.core
  · rw [if_neg Bool.false_ne_true, Bool.or_false]
  · rw [if_pos rfl, Bool.or_true]

theorem markSeen_of_none {elig : CoreId → Bool} {queue : List QueueEntry} (none : ∀ e ∈ queue, elig e.core = false) :
    markSeen elig queue = queue := by
  refine (List.map_congr_left fun e mem => ?_).trans (List.map_id queue)
  rw [none e mem, if_neg Bool.false_ne_true, id]

/-- Marking the entries does not change which of them is the oldest whose core is eligible. -/
theorem pick_markSeen (elig : CoreId → Bool) (u : CableUnit) :
    ({ u with queue := markSeen elig u.queue } : CableUnit).pick elig = u.pick elig := by
  have found : (markSeen elig u.queue).find? (fun e => elig e.core) =
      (u.queue.find? fun e => elig e.core).map
        fun e => { e with seenEligible := e.seenEligible || elig e.core } := by
    rw [markSeen_eq, List.find?_map]
    rfl
  unfold CableUnit.pick
  rw [found]
  cases u.queue.find? fun e => elig e.core <;> rfl

/-- The oldest entry whose core is eligible is taken (R137). -/
theorem pick_queue {u : CableUnit} {elig : CoreId → Bool} {older newer : List QueueEntry} {e : QueueEntry}
    (queue : u.queue = older ++ e :: newer) (passed : ∀ x ∈ older, elig x.core = false) (eligible : elig e.core = true) :
    u.pick elig = some (e.core, .queue) := by
  have found : u.queue.find? (fun x => elig x.core) = some e :=
    List.find?_eq_some_iff_append.mpr ⟨eligible, older, newer, queue, fun x mem => by rw [passed x mem]; rfl⟩
  rw [CableUnit.pick, found]

theorem find_eligible_none {queue : List QueueEntry} {elig : CoreId → Bool} (none : ∀ e ∈ queue, elig e.core = false) :
    queue.find? (fun x => elig x.core) = Option.none :=
  List.find?_eq_none.mpr fun x mem => by rw [none x mem]; nofun

/-! ## The cyclic search -/

/-- Where a core stands in the search that begins behind the pointer (R137). -/
def searchPlace (pointer : Nat) (c : CoreId) : Nat := (c.val + 64 - pointer) % 64

theorem mem_searchOrder (pointer : Nat) (c : CoreId) : c ∈ searchOrder pointer := by
  have split : c ∈ allCores.take pointer ++ allCores.drop pointer := by
    rw [List.take_append_drop]
    exact List.mem_finRange c
  rw [searchOrder, List.mem_append]
  exact (List.mem_append.mp split).symm

theorem mem_drop_allCores {pointer : Nat} {c : CoreId} (mem : c ∈ allCores.drop pointer) : pointer ≤ c.val := by
  obtain ⟨i, bound, rfl⟩ := List.mem_drop_iff_getElem.mp mem
  simp [allCores]

theorem mem_take_allCores {pointer : Nat} {c : CoreId} (mem : c ∈ allCores.take pointer) : c.val < pointer := by
  obtain ⟨i, bound, rfl⟩ := List.mem_take_iff_getElem.mp mem
  simp only [allCores, List.getElem_finRange, Fin.val_cast]
  omega

/-- The search takes the cores in the order of their places behind the pointer (R137). -/
theorem searchOrder_sorted {pointer : Nat} (inside : pointer ≤ 64) :
    (searchOrder pointer).Pairwise fun c d => searchPlace pointer c < searchPlace pointer d := by
  have ascending : allCores.Pairwise fun c d : CoreId => c.val < d.val := List.pairwise_lt_finRange 64
  refine List.pairwise_append.mpr ⟨?_, ?_, fun c behind d before => ?_⟩
  · refine (ascending.sublist (List.drop_sublist pointer _)).imp_of_mem fun {c d} c_in d_in less => ?_
    have low := mem_drop_allCores c_in
    unfold searchPlace
    omega
  · refine (ascending.sublist (List.take_sublist pointer _)).imp_of_mem fun {c d} c_in d_in less => ?_
    have high := mem_take_allCores d_in
    unfold searchPlace
    omega
  · have low := mem_drop_allCores behind
    have high := mem_take_allCores before
    unfold searchPlace
    omega

/-- In a list sorted by a place, the member found is the one with the least place. -/
theorem find_eq_some_of_least {α : Type} {l : List α} {place : α → Nat} {p : α → Bool} {c : α}
    (sorted : l.Pairwise fun a b => place a < place b) (mem : c ∈ l) (holds : p c = true)
    (least : ∀ d, p d = true → place c ≤ place d) : l.find? p = some c := by
  cases found : l.find? p with
  | none => exact absurd holds (List.find?_eq_none.mp found c mem)
  | some d =>
    obtain ⟨d_holds, before, behind, rfl, passed⟩ := List.find?_eq_some_iff_append.mp found
    obtain c_before | c_rest := List.mem_append.mp mem
    · exact absurd (passed c c_before) (by rw [holds]; nofun)
    · obtain rfl | c_behind := List.mem_cons.mp c_rest
      · rfl
      · have later := (List.pairwise_cons.mp (List.pairwise_append.mp sorted).2.1).1 c c_behind
        exact absurd (least d d_holds) (Nat.not_le.mpr later)

/-- With no entry eligible and a cyclic test due, the first eligible core of the test set behind the pointer is taken
(R137). -/
theorem pick_cyclic {u : CableUnit} {elig : CoreId → Bool} {c : CoreId} (none : ∀ e ∈ u.queue, elig e.core = false)
    (running : u.cyclicRunning = true) (due : u.intervalPassed = true) (inside : u.pointer ≤ 64)
    (member : u.testSet[c] = true) (eligible : elig c = true)
    (least : ∀ d : CoreId, u.testSet[d] = true → elig d = true → searchPlace u.pointer c ≤ searchPlace u.pointer d) :
    u.pick elig = some (c, .cyclic) := by
  have found : (searchOrder u.pointer).find? (fun d => u.testSet[d] && elig d) = some c :=
    find_eq_some_of_least (searchOrder_sorted inside) (mem_searchOrder _ c) (by rw [member, eligible]; rfl)
      fun d both => least d (Bool.and_eq_true_iff.mp both).1 (Bool.and_eq_true_iff.mp both).2
  rw [CableUnit.pick, find_eligible_none none, running, due, found]
  rfl

/-- With no entry eligible and no cyclic test to take, no test starts (R137). -/
theorem pick_none {u : CableUnit} {elig : CoreId → Bool} (none : ∀ e ∈ u.queue, elig e.core = false)
    (idle : u.cyclicRunning = false ∨ u.intervalPassed = false ∨ ∀ c : CoreId, u.testSet[c] = true → elig c = false) :
    u.pick elig = Option.none := by
  rw [CableUnit.pick, find_eligible_none none]
  dsimp only
  split
  · next due =>
    obtain ⟨running, passed⟩ := Bool.and_eq_true_iff.mp due
    obtain stopped | waiting | dark := idle
    · exact absurd running (by rw [stopped]; nofun)
    · exact absurd passed (by rw [waiting]; nofun)
    · rw [List.find?_eq_none.mpr fun c _ both => ?_]
      · rfl
      · obtain ⟨member, eligible⟩ := Bool.and_eq_true_iff.mp both
        exact absurd eligible (by rw [dark c member]; nofun)
  · rfl

/-! ## A selection -/

/-- In a disabled unit, or with a test in flight, a selection settles the unit state alone (R130, R137). -/
theorem selectWith_busy {elig : CoreId → Bool} {s : State} (busy : s.cable.enabled = false ∨ s.cable.flight ≠ none) :
    s.selectWith elig = s.settleUnit := by
  have kept : s.cable.selected elig s.nowMs = s.cable := by
    refine if_pos ?_
    obtain disabled | flying := busy
    · rw [disabled]
      rfl
    · rw [Option.isSome_iff_ne_none.mpr flying, Bool.or_true]
  rw [selectWith_eq, State.onCable, kept]

theorem selected_idle {u : CableUnit} (elig : CoreId → Bool) (now : Clock) (enabled : u.enabled = true)
    (free : u.flight = none) :
    (∀ c source, u.pick elig = some (c, source) →
      u.selected elig now = ({ u with queue := markSeen elig u.queue } : CableUnit).startTest now c source) ∧
    (u.pick elig = none → u.selected elig now = { u with queue := markSeen elig u.queue }) := by
  have ready : ¬ (!u.enabled || u.flight.isSome) = true := by
    rw [enabled, free]
    nofun
  unfold CableUnit.selected
  rw [if_neg ready, pick_markSeen]
  refine ⟨fun c source picked => ?_, fun picked => ?_⟩ <;> rw [picked]

/-- The unit state that R130 gives an enabled unit. -/
theorem stateOf_flying {u : CableUnit} {f : Flight} (fitted : CoreId → Nat) (enabled : u.enabled = true)
    (flying : u.flight = some f) : u.stateOf fitted = if u.stopWaiting then .stopping else .testing := by
  rw [CableUnit.stateOf, enabled, flying]
  rfl

theorem workDue_iff {u : CableUnit} {fitted : CoreId → Nat} :
    u.workDue fitted = true ↔ u.queue ≠ [] ∨ (u.cyclicRunning = true ∧ u.intervalPassed = true ∧
      ∃ c : CoreId, u.testSet[c] = true ∧ 0 < fitted c) := by
  simp [CableUnit.workDue, allCores, and_assoc]

theorem stateOf_free {u : CableUnit} (fitted : CoreId → Nat) (enabled : u.enabled = true) (free : u.flight = none) :
    u.stateOf fitted =
      if u.queue ≠ [] ∨ (u.cyclicRunning = true ∧ u.intervalPassed = true ∧
          ∃ c : CoreId, u.testSet[c] = true ∧ 0 < fitted c) then .waiting
      else .idle := by
  rw [CableUnit.stateOf, enabled, free]
  exact (if_neg Bool.false_ne_true).trans ((if_neg Bool.false_ne_true).trans (if_congr workDue_iff rfl rfl))

/-- The queue once its entries are marked and that of one core goes under test (R137, R138). -/
theorem markSeen_underTest (elig : CoreId → Bool) (core : CoreId) (queue : List QueueEntry) :
    (markSeen elig queue).map (fun x => if x.core = core then { x with underTest := true } else x) =
      queue.map fun x =>
        { x with seenEligible := x.seenEligible || elig x.core, underTest := x.underTest || x.core == core } := by
  rw [markSeen_eq, List.map_map]
  refine List.map_congr_left fun x _ => ?_
  dsimp only [Function.comp]
  split
  · next same => rw [beq_iff_eq.mpr same, Bool.or_true]
  · next other => rw [beq_eq_false_iff_ne.mpr other, Bool.or_false]

/-- Settles O47: no selection; the oldest eligible entry; the first core of the cyclic search; none. -/
theorem selectionTaken : Obligations.SelectionTaken := by
  intro s
  refine ⟨fun busy => selectWith_busy busy, fun enabled free => ⟨fun older newer e queue passed eligible => ?_,
    fun none running due inside c member eligible least => ?_, fun none idle => ?_⟩⟩
  · have taken := (selected_idle s.eligible s.nowMs enabled free).1 _ _ (pick_queue queue passed eligible)
    rw [State.select, selectWith_eq, State.onCable, taken, State.settleUnit, State.onCable,
      stateOf_flying _ (by exact enabled) rfl]
    dsimp only [CableUnit.startTest]
    rw [markSeen_underTest]
    rfl
  · have taken := (selected_idle s.eligible s.nowMs enabled free).1 _ _
      (pick_cyclic none running due inside member eligible least)
    rw [State.select, selectWith_eq, State.onCable, taken, State.settleUnit, State.onCable,
      stateOf_flying _ (by exact enabled) rfl, markSeen_of_none none]
    rfl
  · have taken := (selected_idle s.eligible s.nowMs enabled free).2 (pick_none none idle)
    rw [State.select, selectWith_eq, State.onCable, taken, State.settleUnit, State.onCable, markSeen_of_none none,
      stateOf_free _ (by exact enabled) (by exact free)]

/-! ## The requests that command the unit -/

/-- With a test in flight, the unit state follows the waiting stop alone (R130). -/
theorem settleUnit_flying {s : State} {f : Flight} (enabled : s.cable.enabled = true) (flying : s.cable.flight = some f) :
    s.settleUnit = { s with cable.unitState := if s.cable.stopWaiting then .stopping else .testing } := by
  rw [State.settleUnit, State.onCable, stateOf_flying _ enabled flying]

theorem isSome_of_ne_none {α : Type} {o : Option α} (some : o ≠ none) : o.isSome = true :=
  Option.isSome_iff_ne_none.mpr some

/-- TEST_DISABLE of an enabled unit (R131). -/
theorem disabled_eq {s : State} :
    State.settleUnit (s.onCable (CableUnit.disable s.nowSec)) =
      { s with
        cable.unitState := .disabled
        cable.enabled := false
        cable.flight := none
        cable.queue := []
        cable.cyclicRunning := false
        cable.stopWaiting := false
        cable.intervalTimer := false
        cable.records := match s.cable.flight with
          | some f => put s.cable.records f.core
              { s.cable.records[f.core] with
                cls := .interrupted
                interrupted := min 255 (s.cable.records[f.core].interrupted + 1)
                lastTest := s.nowSec }
          | none => s.cable.records } := by
  rw [State.settleUnit, State.onCable, State.onCable, CableUnit.disable, CableUnit.cutOff]
  cases s.cable.flight <;> rfl

theorem fittedOnly_eq {s : State} {cores kept : CoreSet}
    (kept_iff : ∀ c : CoreId, kept[c] = (cores[c] && decide (0 < s.fitted c))) : s.fittedOnly cores = kept := by
  refine Vector.ext fun i bound => ?_
  rw [State.fittedOnly, Vector.getElem_ofFn]
  exact (kept_iff ⟨i, bound⟩).symm

theorem setInterval_eq (now : Clock) (seconds : Nat) (u : CableUnit) :
    u.setInterval now seconds =
      { u with
        interval := max 1 seconds
        intervalPassed := decide (1000 * max 1 seconds ≤ elapsed now u.lastTestEnd)
        intervalTimer := u.enabled && !decide (1000 * max 1 seconds ≤ elapsed now u.lastTestEnd) } := rfl

/-- TEST_STOP has nothing to stop (R133). -/
theorem stop_idle {u : CableUnit} (idle : u.enabled = false ∨ u.cyclicRunning = false) :
    (!(u.enabled && u.cyclicRunning)) = true := by
  rw [Bool.not_eq_true', Bool.and_eq_false_iff]
  exact idle

/-- Settles O48: the five requests refused during a save; then each one's refusals in order and its effect. -/
theorem testUnitCommanded : Obligations.TestUnitCommanded := by
  intro s cores n ready
  have answered {i : Instr} {code : Nat} {body : State → State × Answer} (is : exec i s = .next (serve code .maintenance s body))
      (right : permitted code .maintenance = true) : exec i s = .next ((body s).1.respond .maintenance code (body s).2) :=
    is.trans (congrArg _ (serve_permitted ready right))
  have enable := answered (i := .testEnable) rfl (by decide)
  have disable := answered (i := .testDisable) rfl (by decide)
  have set := answered (i := .testSet cores) rfl (by decide)
  have interval := answered (i := .testInterval n) rfl (by decide)
  have start := answered (i := .testStartCyclic) rfl (by decide)
  have stop := answered (i := .testStop) rfl (by decide)
  rw [enable, disable, set, interval, start, stop]
  refine ⟨fun saving => ?_, fun saving => ?_, fun disabled => ?_, fun enabled => ⟨fun flying stopping => ?_, fun still => ?_⟩⟩
  · rw [reqTestEnable, reqTestDisable, reqTestSet, reqTestInterval, reqTestStop, if_pos saving, if_pos saving,
      if_pos saving, if_pos saving, if_pos saving]
    exact ⟨rfl, rfl, rfl, rfl, rfl⟩
  · have idle : ¬ s.saving = true := by rw [saving]; nofun
    rw [reqTestEnable, reqTestDisable, reqTestSet, reqTestInterval, reqTestStop, if_neg idle, if_neg idle, if_neg idle,
      if_neg idle, if_neg idle]
    refine ⟨fun on => ?_, fun off => ?_, fun off => ?_, fun on => ?_, fun kept kept_iff => ?_, fun long => ?_,
      fun short on => ?_, fun short off => ?_, fun none => ?_, fun on running free => ?_, fun on running flying => ?_⟩
    · rw [if_pos on]
      rfl
    · rw [if_neg (by rw [off]; nofun)]
      rfl
    · rw [if_pos (by rw [off]; rfl)]
      rfl
    · rw [if_neg (by rw [on]; nofun), disabled_eq]
      rfl
    · rw [fittedOnly_eq kept_iff]
      rfl
    · rw [if_pos long]
      rfl
    · rw [if_neg (Nat.not_lt.mpr short), State.onCable, setInterval_eq,
        show ∀ run, (s.cable.enabled && !run) = !run by rw [on]; exact fun _ => Bool.true_and _]
      rfl
    · rw [if_neg (Nat.not_lt.mpr short), State.onCable, setInterval_eq,
        show ∀ run, (s.cable.enabled && !run) = false by rw [off]; exact fun _ => Bool.false_and _]
      rfl
    · rw [if_pos (stop_idle none)]
      rfl
    · rw [if_neg (by rw [on, running]; nofun), if_neg (by rw [free]; nofun)]
      rfl
    · obtain ⟨f, flight⟩ := Option.ne_none_iff_exists'.mp flying
      rw [if_neg (by rw [on, running]; nofun), if_pos (isSome_of_ne_none flying), State.onCable,
        settleUnit_flying (by exact on) (by exact flight)]
      rfl
  · rw [reqTestStartCyclic, if_pos (by rw [disabled]; rfl)]
    rfl
  · obtain ⟨f, flight⟩ := Option.ne_none_iff_exists'.mp flying
    rw [reqTestStartCyclic, if_neg (by rw [enabled]; nofun), if_pos (by rw [flight, stopping]; rfl), State.onCable,
      settleUnit_flying (by exact enabled) (by exact flight)]
    rfl
  · have not_stopping : ¬ (s.cable.flight.isSome && s.cable.stopWaiting) = true := by
      obtain free | going := still
      · rw [free]; nofun
      · rw [going, Bool.and_false]; nofun
    rw [reqTestStartCyclic, if_neg (by rw [enabled]; nofun), if_neg not_stopping]
    refine ⟨fun busy => ?_, fun stopped saving => ?_⟩
    · by_cases running : s.cable.cyclicRunning = true
      · rw [if_pos running]
        rfl
      · rw [if_neg running, if_pos (busy.resolve_left running)]
        rfl
    · rw [if_neg (by rw [stopped]; nofun), if_neg (by rw [saving]; nofun)]
      rfl

/-! ## The test queue is filled -/

theorem queued_iff {u : CableUnit} {c : CoreId} : u.queued c = true ↔ ∃ e ∈ u.queue, e.core = c := by
  simp [CableUnit.queued]

/-- A declaration is dropped in a disabled unit, for a core not fitted or queued, and with the queue full (R136). -/
theorem declared_dropped {s : State} {c : CoreId} (origin : QueueOrigin)
    (dropped : s.cable.enabled = false ∨ s.fitted c = 0 ∨ (∃ e ∈ s.cable.queue, e.core = c) ∨ 8 ≤ s.cable.queue.length) :
    s.declared c origin = s := by
  refine if_pos ?_
  rw [← queued_iff] at dropped
  simp only [Bool.or_eq_true, Bool.not_eq_true', decide_eq_true_eq, beq_iff_eq]
  tauto

/-- Any other declaration joins the tail of the queue (R134, R136). -/
theorem declared_taken {s : State} {c : CoreId} (origin : QueueOrigin) (enabled : s.cable.enabled = true)
    (fitted : 0 < s.fitted c) (absent : ∀ e ∈ s.cable.queue, e.core ≠ c) (room : s.cable.queue.length < 8) :
    s.declared c origin = s.enqueue c origin := by
  refine if_neg ?_
  simp only [Bool.or_eq_true, Bool.not_eq_true', decide_eq_true_eq, beq_iff_eq, queued_iff, enabled]
  rintro (((off | ⟨e, mem, core⟩) | full) | unfitted)
  · cases off
  · exact absent e mem core
  · omega
  · omega

theorem exec_testCore {s : State} (ready : s.loading = false) (n : Nat) :
    exec (.testCore n) s = .next ((reqTestCore n s).1.respond .maintenance 40 (reqTestCore n s).2) :=
  congrArg Host.Outcome.next (serve_permitted ready (by decide))

/-- Settles O49: TEST_CORE's refusals in order and its effect; a declaration taken and a declaration dropped. -/
theorem queueFilled : Obligations.QueueFilled := by
  intro s c n ready
  have core : coreNumber (c.val + 1) = some c := numbered_val_add_one c
  rw [exec_testCore ready, reqTestCore]
  refine ⟨fun disabled => ?_, fun enabled outside => ?_, fun enabled number fitted queued => ?_,
    fun enabled number fitted absent full => ?_, fun enabled number fitted absent room => ⟨?_, ?_, ?_⟩,
    fun dropped => ⟨?_, ?_⟩⟩
  · rw [if_pos (by rw [disabled]; rfl)]
    rfl
  · rw [if_neg (by rw [enabled]; nofun)]
    obtain zero | long | ⟨rfl, unfitted⟩ := outside
    · rw [coreNumber, numbered_of_outside (.inl zero)]
      rfl
    · rw [coreNumber, numbered_of_outside (.inr long)]
      rfl
    · rw [core]
      dsimp only
      rw [if_pos unfitted]
      rfl
  · rw [if_neg (by rw [enabled]; nofun), number, core]
    dsimp only
    rw [if_neg (Nat.ne_of_gt fitted), if_pos (queued_iff.mpr queued)]
    rfl
  · have free : ¬ s.cable.queued c = true := fun held =>
      (queued_iff.mp held).elim fun e ⟨mem, same⟩ => absent e mem same
    rw [if_neg (by rw [enabled]; nofun), number, core]
    dsimp only
    rw [if_neg (Nat.ne_of_gt fitted), if_neg free, if_pos full]
    rfl
  · have free : ¬ s.cable.queued c = true := fun held =>
      (queued_iff.mp held).elim fun e ⟨mem, same⟩ => absent e mem same
    rw [if_neg (by rw [enabled]; nofun), number, core]
    dsimp only
    rw [if_neg (Nat.ne_of_gt fitted), if_neg free, if_neg (Nat.not_le.mpr room)]
    rfl
  · exact (next_event ready).trans (congrArg Host.Outcome.next
      (declared_taken (s := s.taking (.lampOutDeclaration c)) .lampOut enabled fitted absent room))
  · exact (next_event ready).trans (congrArg Host.Outcome.next
      (declared_taken (s := s.taking (.redLostDeclaration c)) .redLost enabled fitted absent room))
  · exact (next_event ready).trans (congrArg Host.Outcome.next
      (declared_dropped (s := s.taking (.lampOutDeclaration c)) .lampOut dropped))
  · exact (next_event ready).trans (congrArg Host.Outcome.next
      (declared_dropped (s := s.taking (.redLostDeclaration c)) .redLost dropped))

end Sys2Proof.Machine
end

section
/-! A cable test's run, its end by completion or abort (R138 to R141), and the unit's timers (R137, R142, R144). -/

namespace Sys2Proof.Machine

/-! ## The two phases -/

theorem exec_energiseNotice {s : State} (ready : s.loading = false) (c : CoreId) :
    exec (.energiseNotice c) s = .next (s.notice (fun x => s.eligible x && x != c) c) := next_event ready

theorem phaseOver_iff {now : Clock} {f : Flight} : f.phaseOver now = true ↔ 200 ≤ elapsed now f.phaseStart :=
  decide_eq_true_iff

theorem positiveEnd_still {s : State} (x : Int)
    (still : ∀ f, s.cable.flight = some f → ¬ (f.phase = .positive ∧ f.phaseOver s.nowMs = true)) :
    s.positiveEnd x = s := by
  unfold State.positiveEnd
  split
  · next f flying => exact if_neg (still f flying)
  · rfl

theorem negativeEnd_still {s : State} (x : Int)
    (still : ∀ f, s.cable.flight = some f → ¬ (f.phase = .negative ∧ f.phaseOver s.nowMs = true)) :
    s.negativeEnd x = s := by
  unfold State.negativeEnd
  split
  · next f flying => exact if_neg (still f flying)
  · rfl

/-- The end of the first phase (R138). -/
theorem positiveEnd_taken {s : State} {f : Flight} (x : Int) (flying : s.cable.flight = some f)
    (phase : f.phase = .positive) (run_out : f.phaseOver s.nowMs = true) :
    s.positiveEnd x =
      { s with cable.flight := some { f with phase := .negative, phaseStart := s.nowMs, positive := some (railed x) } } := by
  rw [State.positiveEnd, flying]
  exact if_pos ⟨phase, run_out⟩

theorem negativeEnd_taken {s : State} {f : Flight} (x : Int) (flying : s.cable.flight = some f)
    (phase : f.phase = .negative) (run_out : f.phaseOver s.nowMs = true) :
    s.negativeEnd x = s.completeTest f (railed x) := by
  rw [State.negativeEnd, flying]
  exact if_pos ⟨phase, run_out⟩

theorem testClass_cases (positive negative : Int) :
    testClass positive negative = .saturated ∨ testClass positive negative = .asymmetric ∨
      testClass positive negative = .valid := by
  unfold testClass
  split
  · exact .inl rfl
  · split
    · exact .inr (.inl rfl)
    · exact .inr (.inr rfl)

/-- The unit's record once a completed test has left it (R140). -/
theorem settled_eq (f : Flight) (now : Clock) (u : CableUnit) :
    ((u.settleSource f).finishStop).restartInterval now =
      { u with
        queue := if f.source = .queue then u.queue.filter fun e => e.core != f.core else u.queue
        pointer := if f.source = .queue then u.pointer else f.core.val + 1
        flight := none
        cyclicRunning := u.cyclicRunning && !u.stopWaiting
        stopWaiting := false
        lastTestEnd := now
        intervalPassed := false
        intervalTimer := true } := by
  rw [finishStop_eq, CableUnit.settleSource, CableUnit.restartInterval]
  cases f.source <;> rfl

/-- A completed test: its record, its faults, the result sent, and the selection that follows (R139, R140). -/
theorem completeTest_eq {s : State} {f : Flight} {pos neg : Int} {cls : CableClass} (positive : f.positive = some pos)
    (cls_eq : cls = testClass pos neg) :
    s.completeTest f neg = State.select
      { s with
        cable.records := put s.cable.records f.core
          { s.cable.records[f.core] with
            cls := cls
            positive := pos
            negative := neg
            leakage := (pos - neg).tdiv 2
            offset := (pos + neg).tdiv 2
            worst := if cls = .valid then max s.cable.records[f.core].worst ((pos - neg).tdiv 2)
                     else s.cable.records[f.core].worst
            done := min 65535 (s.cable.records[f.core].done + 1)
            lastTest := s.nowSec }
        cable.queue := if f.source = .queue then s.cable.queue.filter fun e => e.core != f.core else s.cable.queue
        cable.pointer := if f.source = .queue then s.cable.pointer else f.core.val + 1
        cable.flight := none
        cable.cyclicRunning := s.cable.cyclicRunning && !s.cable.stopWaiting
        cable.stopWaiting := false
        cable.lastTestEnd := s.nowMs
        cable.intervalPassed := false
        cable.intervalTimer := true
        faults :=
          if cls = .asymmetric then (s.raise .cableAsymmetric (.core f.core)).faults
          else if cls = .valid then
            ((s.clear .cableAsymmetric (.core f.core)).clear .cableNoWindow (.core f.core)).faults
          else s.faults
        outbox := s.outbox ++ (if cls = .saturated then [] else
          [.cableResult f.core cls ((pos - neg).tdiv 2) ((pos + neg).tdiv 2)]) } := by
  unfold State.completeTest CableRecord.complete
  rw [positive, Option.getD_some]
  refine congrArg State.select ?_
  dsimp only
  rw [← cls_eq]
  rw [funext fun u => settled_eq f _ u]
  obtain saturated | asymmetric | valid := testClass_cases pos neg
  · rw [cls_eq, saturated, if_pos (c := CableClass.saturated = .saturated) rfl, List.append_nil]
    rfl
  · rw [cls_eq, asymmetric]
    rfl
  · rw [cls_eq, valid]
    rfl

/-! ## The abort -/

/-- What a selection keeps of a unit, and the core it takes (R137, R138). -/
theorem selected_kept (elig : CoreId → Bool) (now : Clock) (u : CableUnit) :
    (u.selected elig now).records = u.records ∧ (u.selected elig now).lastTestEnd = u.lastTestEnd ∧
      (u.selected elig now).intervalTimer = u.intervalTimer ∧
      (u.intervalPassed = false → (u.selected elig now).intervalPassed = false) ∧
      (u.flight = none → ∀ f, (u.selected elig now).flight = some f → elig f.core = true) := by
  unfold CableUnit.selected
  split
  · exact ⟨rfl, rfl, rfl, id, fun free f flying => by rw [free] at flying; cases flying⟩
  · split
    · next c source picked =>
      refine ⟨rfl, rfl, rfl, fun _ => rfl, fun _ f flying => ?_⟩
      rw [← Option.some.inj flying]
      exact pick_eligible picked
    · exact ⟨rfl, rfl, rfl, id, fun free f flying => by rw [show _ = none from free] at flying; cases flying⟩

/-- A notice for the core in test aborts it, and a selection follows (R141). -/
theorem notice_taken {s : State} {f : Flight} (elig : CoreId → Bool) (flying : s.cable.flight = some f) :
    s.notice elig f.core = (s.abortFlight .toHead f).selectWith elig := by
  rw [State.notice, flying]
  exact if_pos rfl

theorem notice_idle {s : State} (elig : CoreId → Bool) (free : s.cable.flight = none) (c : CoreId) :
    s.notice elig c = s := by
  rw [State.notice, free]

theorem notice_elsewhere {s : State} {f : Flight} {c : CoreId} (elig : CoreId → Bool) (flying : s.cable.flight = some f)
    (elsewhere : c ≠ f.core) : s.notice elig c = s := by
  rw [State.notice, flying]
  exact if_neg (Ne.symm elsewhere)

/-- The entry of an interrupted test at the head of its queue (R141). -/
theorem entryToHead_eq {older newer : List QueueEntry} {e : QueueEntry} {core : CoreId} (now : Clock)
    (is : e.core = core) (others : ∀ x ∈ older ++ newer, x.core ≠ core) :
    entryToHead now core (older ++ e :: newer) =
      { e with underTest := false, waitStart := now, seenEligible := false } :: (older ++ newer) := by
  have found : (older ++ e :: newer).find? (fun x => x.core == core) = some e := by
    refine List.find?_eq_some_iff_append.mpr ⟨beq_iff_eq.mpr is, older, newer, rfl, fun x mem => ?_⟩
    rw [beq_eq_false_iff_ne.mpr (others x (List.mem_append_left _ mem))]
    rfl
  have rest : (older ++ e :: newer).filter (fun x => !(x.core == core)) = older ++ newer := by
    rw [List.filter_append, List.filter_cons_of_neg (by rw [beq_iff_eq.mpr is]; nofun), ← List.filter_append]
    refine List.filter_eq_self.mpr fun x mem => ?_
    rw [beq_eq_false_iff_ne.mpr (others x mem)]
    rfl
  unfold entryToHead
  rw [found, rest]

/-- Settles O50: the two phases with their ends; the abort, first what it always leaves, then its whole effect; and the
events that change nothing. -/
theorem testsRun : Obligations.TestsRun := by
  refine ⟨fun s f x pos neg ready flying neg_eq => ⟨fun short => ⟨?_, ?_⟩, fun phase run_out => ?_,
    fun phase run_out positive cls cls_eq => ?_, ?_, fun queue source => ?_, fun c elsewhere => ?_⟩,
    fun s c x ready => ⟨fun free => ?_, fun negative => ?_, fun positive => ?_⟩⟩
  · refine (next_event ready).trans (congrArg Host.Outcome.next (positiveEnd_still x fun f' flying' both => ?_))
    obtain rfl := Option.some.inj (flying.symm.trans flying')
    exact Nat.not_le.mpr short (phaseOver_iff.mp both.2)
  · refine (next_event ready).trans (congrArg Host.Outcome.next (negativeEnd_still x fun f' flying' both => ?_))
    obtain rfl := Option.some.inj (flying.symm.trans flying')
    exact Nat.not_le.mpr short (phaseOver_iff.mp both.2)
  · refine (next_event ready).trans (congrArg Host.Outcome.next ?_)
    rw [positiveEnd_taken x flying phase (phaseOver_iff.mpr run_out), neg_eq]
    rfl
  · refine (next_event ready).trans (congrArg Host.Outcome.next ?_)
    obtain rfl : neg = railed x := neg_eq
    rw [negativeEnd_taken x flying phase (phaseOver_iff.mpr run_out), completeTest_eq positive cls_eq]
  · obtain ⟨records, test_end, timer, passed, flight⟩ := selected_kept (fun c => s.eligible c && c != f.core) s.nowMs
      (s.abortFlight .toHead f).cable
    refine ⟨_, (exec_energiseNotice ready f.core).trans (congrArg _ (notice_taken _ flying)), records.trans ?_,
      fun f' flying' same => ?_, test_end.trans ?_, timer.trans ?_, passed ?_, ?_⟩
    · rw [abortFlight_eq]
      rfl
    · have eligible := flight (by rw [abortFlight_eq]) f' flying'
      rw [same, bne_self_eq_false, Bool.and_false] at eligible
      cases eligible
    · rw [abortFlight_eq]
    · rw [abortFlight_eq]
    · rw [abortFlight_eq]
    · rfl
  · refine (exec_energiseNotice ready f.core).trans (congrArg _ ((notice_taken _ flying).trans ?_))
    have queued : f.abortedQueue .toHead s.nowMs s.cable.queue = queue := by
      unfold Flight.abortedQueue
      obtain ⟨cyclic, same⟩ | ⟨from_queue, older, newer, e, whole, is, others, queue_eq⟩ := source
      · rw [cyclic, same]
      · rw [from_queue, whole, entryToHead_eq s.nowMs is others, queue_eq]
    rw [abortFlight_eq, queued]
    rfl
  · exact (exec_energiseNotice ready c).trans (congrArg _ (notice_elsewhere _ flying elsewhere))
  · exact (exec_energiseNotice ready c).trans (congrArg _ (notice_idle _ free c))
  · refine (next_event ready).trans (congrArg Host.Outcome.next (positiveEnd_still x fun f flying both => ?_))
    rw [negative f flying] at both
    cases both.1
  · refine (next_event ready).trans (congrArg Host.Outcome.next (negativeEnd_still x fun f flying both => ?_))
    rw [positive f flying] at both
    cases both.1

/-! ## The unit's timers -/

/-- In a queue that holds no core twice, an entry is the one found for its core. -/
theorem find_core_eq_some {queue : List QueueEntry} {e : QueueEntry} (mem : e ∈ queue)
    (distinct : (queue.map fun x => x.core).Nodup) : queue.find? (fun x => x.core == e.core) = some e := by
  cases found : queue.find? fun x => x.core == e.core with
  | none => exact absurd (List.find?_eq_none.mp found e mem) (by simp)
  | some e' =>
    have same : e'.core = e.core := by simpa using List.find?_some found
    rw [List.inj_on_of_nodup_map distinct (List.mem_of_find?_eq_some found) mem same]

theorem waitExpiry_eq {s : State} {e : QueueEntry} (mem : e ∈ s.cable.queue)
    (distinct : (s.cable.queue.map fun x => x.core).Nodup) (waiting : e.underTest = false) :
    s.waitExpiry e.core = s.waitExpired e := by
  rw [State.waitExpiry, find_core_eq_some mem distinct]
  exact if_neg (by rw [waiting]; nofun)

theorem exec_clearCable {s : State} (ready : s.loading = false) (n : Nat) :
    exec (.clearCable n) s = .next ((reqClearCable n s).1.respond .maintenance 41 (reqClearCable n s).2) :=
  congrArg Host.Outcome.next (serve_permitted ready (by decide))

/-- Settles O51: the interval, the wait seen eligible and not, the change of command, and CLEAR_CABLE. -/
theorem cableTimersTaken : Obligations.CableTimersTaken := by
  intro s c n ready
  refine ⟨fun timer => ?_, fun e mem core distinct waiting => ⟨fun seen => ?_, fun unseen => ?_⟩, ?_, fun k lit => ?_,
    fun outside => ?_, ?_⟩
  · exact (next_event ready).trans (congrArg Host.Outcome.next (if_pos timer))
  · obtain rfl := core
    refine (next_event ready).trans (congrArg Host.Outcome.next ((waitExpiry_eq mem distinct waiting).trans ?_))
    exact if_pos seen
  · obtain rfl := core
    refine (next_event ready).trans (congrArg Host.Outcome.next ((waitExpiry_eq mem distinct waiting).trans ?_))
    exact if_neg (by rw [unseen]; nofun)
  · refine (next_event ready).trans (congrArg (fun t => Host.Outcome.next (State.select t)) ((if_pos rfl).trans ?_))
    have marked : ∀ queue : List QueueEntry, markSeen (fun x => x == c) queue =
        queue.map fun x => if x.core = c then { x with seenEligible := true } else x := fun queue =>
      List.map_congr_left fun x _ => if_congr beq_iff_eq rfl rfl
    rw [State.onCable, marked]
    rfl
  · exact (next_event ready).trans (congrArg (fun t => Host.Outcome.next (State.select t)) (if_neg lit))
  · rw [exec_clearCable ready, reqClearCable, coreNumber, numbered_of_outside outside]
    rfl
  · rw [exec_clearCable ready, reqClearCable, coreNumber, numbered_val_add_one]
    rfl

end Sys2Proof.Machine
end

section
/-! How a result evaluates the four qualifiers (R147 to R151). -/

namespace Sys2Proof.Machine

/-! ## Faults raised in turn -/

/-- The key has an ACTIVE record in the table (R156). -/
def FaultTable.Active (k : FaultKind) (x : Subject) (t : FaultTable) : Prop :=
  ∃ r ∈ t.records, r.kind = k ∧ r.subject = x ∧ r.state = .active

theorem raised_state (now : Clock) (r : FaultRecord) : (r.raised now).state = .active := by
  unfold FaultRecord.raised
  split
  · next active => exact active
  · rfl

theorem hasKey_raised {k : FaultKind} {x : Subject} {now : Clock} {r : FaultRecord} :
    FaultRecord.hasKey k x (r.raised now) = FaultRecord.hasKey k x r := by
  have same := FaultRecord.raised_key now r
  rw [Bool.eq_iff_iff, FaultRecord.hasKey_iff, FaultRecord.hasKey_iff, show (r.raised now).kind = r.kind from
    congrArg Prod.fst same, show (r.raised now).subject = r.subject from congrArg Prod.snd same]

theorem FaultTable.active_iff {k : FaultKind} {x : Subject} {t : FaultTable} :
    t.Active k x ↔ ∃ r ∈ t.records, FaultRecord.hasKey k x r = true ∧ r.state = .active := by
  simp only [FaultTable.Active, FaultRecord.hasKey_iff, and_assoc]

/-- With room in the table, the key raised has its ACTIVE record (R157). -/
theorem raise_makes_active {t : FaultTable} (room : t.records.length < 32) (k : FaultKind) (x : Subject) (now : Clock) :
    (t.raise k x now).Active k x := by
  unfold FaultTable.raise
  rw [FaultTable.active_iff]
  split
  · next found =>
    obtain ⟨r, member, key⟩ := List.any_eq_true.mp found
    exact ⟨r.raised now, List.mem_map.mpr ⟨r, member, if_pos key⟩, hasKey_raised.trans key, raised_state now r⟩
  · exact ⟨FaultRecord.new k x now, List.mem_append_right _ (List.mem_singleton_self _),
      FaultRecord.hasKey_iff.mpr ⟨rfl, rfl⟩, rfl⟩

/-- With room in the table, a raise keeps every key's ACTIVE record (R157). -/
theorem raise_keeps_active {t : FaultTable} {k : FaultKind} {x : Subject} (room : t.records.length < 32)
    (active : t.Active k x) (k' : FaultKind) (x' : Subject) (now : Clock) : (t.raise k' x' now).Active k x := by
  obtain ⟨r, member, key, state⟩ := FaultTable.active_iff.mp active
  unfold FaultTable.raise
  rw [FaultTable.active_iff]
  split
  · refine ⟨if FaultRecord.hasKey k' x' r then r.raised now else r, List.mem_map.mpr ⟨r, member, rfl⟩, ?_⟩
    split
    · exact ⟨hasKey_raised.trans key, raised_state now r⟩
    · exact ⟨key, state⟩
  · exact ⟨r, List.mem_append_left _ member, key, state⟩

theorem raise_length_le (t : FaultTable) (k : FaultKind) (x : Subject) (now : Clock) :
    (t.raise k x now).records.length ≤ t.records.length + 1 := by
  have erased := List.length_eraseP_le (p := FaultRecord.evictable) (l := t.records)
  unfold FaultTable.raise FaultTable.make
  split_ifs <;> simp only [List.length_map, List.length_append, List.length_singleton] <;> omega

/-- QUALIFIER_FIRED raised for each qualifier of a list in turn (R151). -/
def FaultTable.firedFor (now : Clock) (t : FaultTable) (fired : List QualId) : FaultTable :=
  fired.foldl (fun table q => table.raise .qualifierFired (.qualifier q) now) t

/-- With room for all of them, each qualifier of the list has its ACTIVE record at the end (R151, R157). -/
theorem firedFor_active {now : Clock} {q : QualId} {fired : List QualId} {t : FaultTable}
    (room : t.records.length + fired.length ≤ 32)
    (raised : t.Active .qualifierFired (.qualifier q) ∨ q ∈ fired) :
    (t.firedFor now fired).Active .qualifierFired (.qualifier q) := by
  induction fired generalizing t with
  | nil => exact raised.resolve_right (List.not_mem_nil)
  | cons p rest ih =>
    rw [List.length_cons] at room
    have longer := raise_length_le t .qualifierFired (.qualifier p) now
    refine ih (by dsimp only; omega) ?_
    obtain active | member := raised
    · exact .inl (raise_keeps_active (by omega) active _ _ now)
    · obtain rfl | later := List.mem_cons.mp member
      · exact .inl (raise_makes_active (by omega) _ _ now)
      · exact .inr later

/-! ## One qualifier -/

/-- A qualifier after a result, and whether it fired: left alone unless it is ARMED and given a value (R147). -/
def Qualifier.evaluated (value : Qualifier → Option Int) (q : Qualifier) : Qualifier × Bool :=
  if q.state = .armed then
    match value q with
    | some x => q.evaluate x
    | none => (q, false)
  else (q, false)

theorem evaluated_still {value : Qualifier → Option Int} {q : Qualifier}
    (still : q.state ≠ .armed ∨ value q = none) : q.evaluated value = (q, false) := by
  unfold Qualifier.evaluated
  split
  · next armed => rw [still.resolve_left fun other => other armed]
  · rfl

theorem evaluated_taken {value : Qualifier → Option Int} {q : Qualifier} {x : Int} (armed : q.state = .armed)
    (given : value q = some x) : q.evaluated value = q.evaluate x := by
  rw [Qualifier.evaluated, if_pos armed, given]

/-- An evaluation in its parts: the event by the combine rule, the seen flags, the count and the firing (R148 to
R150). -/
theorem evaluate_eq {q : Qualifier} {x : Int} {a b happens : Bool} (a_eq : a = q.a.holds x) (b_eq : b = q.b.holds x)
    (armed : q.state = .armed)
    (rule_and : q.combine = .aAndB → happens = (a && b)) (rule_or : q.combine = .aOrB → happens = (a || b))
    (rule_ba : q.combine = .bAfterA → happens = (b && q.aSeen)) (rule_ab : q.combine = .aAfterB → happens = (a && q.bSeen)) :
    q.evaluate x =
      ({ q with
         aSeen := if q.combine = .bAfterA then !happens && (q.aSeen || a) else q.aSeen
         bSeen := if q.combine = .aAfterB then !happens && (q.bSeen || b) else q.bSeen
         remaining := if happens then q.remaining - 1 else q.remaining
         state := if happens ∧ q.remaining = 0 then .fired else .armed },
       happens && decide (q.remaining = 0)) := by
  have combined : q.combined a b =
      (happens, if q.combine = .bAfterA then !happens && (q.aSeen || a) else q.aSeen,
        if q.combine = .aAfterB then !happens && (q.bSeen || b) else q.bSeen) := by
    unfold Qualifier.combined
    cases rule : q.combine
    · rw [rule_and rule]
      rfl
    · rw [rule_or rule]
      rfl
    · rw [rule_ba rule]
      cases b <;> cases q.aSeen <;> rfl
    · rw [rule_ab rule]
      cases a <;> cases q.bSeen <;> rfl
  unfold Qualifier.evaluate
  rw [← a_eq, ← b_eq, combined]
  dsimp only
  cases happens
  · simp [armed]
  · by_cases last : q.remaining = 0
    · simp [last]
    · simp [last, armed, Nat.pos_of_ne_zero last]

theorem evaluate_fired {q : Qualifier} {x : Int} (armed : q.state = .armed) :
    (q.evaluate x).2 = true ↔ (q.evaluate x).1.state = .fired := by
  unfold Qualifier.evaluate
  dsimp only
  split_ifs <;> simp [armed]

theorem evaluated_fired {value : Qualifier → Option Int} {q : Qualifier} :
    (q.evaluated value).2 = true ↔ q.state = .armed ∧ (q.evaluated value).1.state = .fired := by
  by_cases armed : q.state = .armed
  · refine Iff.trans ?_ (and_iff_right armed).symm
    cases given : value q with
    | none =>
      rw [evaluated_still (.inr given), armed]
      exact ⟨nofun, nofun⟩
    | some x =>
      rw [evaluated_taken armed given]
      exact evaluate_fired armed
  · rw [evaluated_still (.inl armed)]
    exact ⟨nofun, fun both => absurd both.1 armed⟩

/-! ## The four in turn -/

theorem put_self {α : Type} {n : Nat} (v : Vector α n) (i : Fin n) : put v i v[i] = v := Vector.set_getElem_self i.isLt

/-- One qualifier's evaluation as the state holds it (R147, R150, R151). -/
theorem evaluate_state (value : Qualifier → Option Int) (s : State) (n : QualId) :
    s.evaluate value n =
      { s with
        quals := put s.quals n (s.quals[n].evaluated value).1
        faults := s.faults.firedFor s.nowSec (if (s.quals[n].evaluated value).2 then [n] else [])
        outbox := s.outbox ++ (if (s.quals[n].evaluated value).2 then actionMessages s.quals[n].action else []) } := by
  unfold State.evaluate
  split
  · next x armed given =>
    rw [evaluated_taken armed given, State.evaluateAt]
    split
    · rfl
    · rw [List.append_nil]
      rfl
  · next still =>
    have left_alone : s.quals[n].state ≠ .armed ∨ value s.quals[n] = none := by
      by_contra both
      obtain ⟨armed, given⟩ := not_or.mp both
      obtain ⟨x, some_x⟩ := Option.ne_none_iff_exists'.mp given
      exact still x (not_not.mp armed) some_x
    rw [evaluated_still left_alone, put_self, if_neg Bool.false_ne_true, if_neg Bool.false_ne_true, List.append_nil]
    rfl

/-- What the evaluation of a list of qualifiers leaves, each judged as it stood before (R147). -/
structure QualifiersTaken (value : Qualifier → Option Int) (l : List QualId) (s t : State) : Prop where
  quals : ∀ q, t.quals[q] = if q ∈ l then (s.quals[q].evaluated value).1 else s.quals[q]
  faults : t.faults = s.faults.firedFor s.nowSec (l.filter fun q => (s.quals[q].evaluated value).2)
  outbox : t.outbox = s.outbox ++ (l.filter fun q => (s.quals[q].evaluated value).2).flatMap fun q =>
    actionMessages s.quals[q].action
  rest : t = { s with quals := t.quals, faults := t.faults, outbox := t.outbox }

theorem qualifiersTaken (value : Qualifier → Option Int) {l : List QualId} (distinct : l.Nodup) (s : State) :
    QualifiersTaken value l s (l.foldl (State.evaluate value) s) := by
  induction l generalizing s with
  | nil => exact ⟨fun q => rfl, rfl, (List.append_nil _).symm, rfl⟩
  | cons n rest ih =>
    obtain ⟨absent, distinct_rest⟩ := List.nodup_cons.mp distinct
    obtain ⟨t, t_eq⟩ : ∃ t, t = s.evaluate value n := ⟨_, rfl⟩
    rw [evaluate_state] at t_eq
    have other : ∀ q ∈ rest, t.quals[q] = s.quals[q] := fun q member => by
      have apart : q ≠ n := fun same => absent (same ▸ member)
      rw [t_eq]
      exact (put_getElem _ _ _ _).trans (if_neg apart)
    have now : t.nowSec = s.nowSec := by
      rw [t_eq]
      rfl
    rw [List.foldl_cons, evaluate_state, ← t_eq]
    obtain ⟨quals, faults, outbox, kept⟩ := ih distinct_rest t
    have fired_later : (rest.filter fun q => (t.quals[q].evaluated value).2) =
        rest.filter fun q => (s.quals[q].evaluated value).2 :=
      List.filter_congr fun q member => by rw [other q member]
    have fired_all : ((n :: rest).filter fun q => (s.quals[q].evaluated value).2) =
        (if (s.quals[n].evaluated value).2 then [n] else []) ++ rest.filter fun q => (s.quals[q].evaluated value).2 := by
      rw [List.filter_cons]
      split <;> rfl
    refine ⟨fun q => ?_, ?_, ?_, ?_⟩
    · rw [quals q]
      by_cases later : q ∈ rest
      · rw [if_pos later, if_pos (List.mem_cons_of_mem n later), other q later]
      · rw [if_neg later, t_eq]
        refine (put_getElem _ _ _ _).trans ?_
        by_cases same : q = n
        · rw [if_pos same, if_pos (same ▸ List.mem_cons_self), same]
        · rw [if_neg same, if_neg (by rw [List.mem_cons]; exact not_or.mpr ⟨same, later⟩)]
    · rw [faults, fired_later, fired_all, now, t_eq]
      exact (List.foldl_append ..).symm
    · rw [outbox, fired_later, fired_all, List.flatMap_append, ← List.append_assoc]
      congr 1
      · rw [t_eq]
        dsimp only
        split
        · rw [List.flatMap_singleton]
        · rfl
      · exact List.flatMap_congr fun q member => by rw [other q (List.mem_of_mem_filter member)]
    · rw [kept, t_eq]

/-- The value a frame result gives, by its source and its reading class (R147). -/
theorem frameValue_eq (results : Vector AspectResult 64) :
    frameValue results = fun k =>
      if k.source = .lampNet ∧ (results[k.subject].cls = .lit ∨ results[k.subject].cls = .darkOk) then
        some (results[k.subject].net : Int)
      else if k.source = .lampProven ∧ results[k.subject].cls = .lit then some (results[k.subject].proven : Int)
      else none := by
  funext k
  unfold frameValue
  generalize results[k.subject] = r
  dsimp only
  cases k.source <;> cases r.cls <;> rfl

/-- The value a cable result gives, by its core, its class and the source (R147). -/
theorem cableValue_eq (c : CoreId) (cls : CableClass) (leakage offset : Int) :
    cableValue c cls leakage offset = fun k =>
      if k.subject ≠ c ∨ cls ≠ .valid ∧ cls ≠ .asymmetric then none
      else if k.source = .cableLeakage then some leakage
      else if k.source = .cableOffset then some offset else none := by
  funext k
  unfold cableValue
  by_cases taken : k.subject = c ∧ (cls = .valid ∨ cls = .asymmetric)
  · rw [if_pos taken, if_neg (by tauto)]
    cases k.source <;> rfl
  · rw [if_neg taken, if_pos (by tauto)]

/-- A frame result or a cable result is evaluated by the four in turn (R147). -/
theorem exec_result {s : State} {i : Instr} {value : Qualifier → Option Int} (ready : s.loading = false)
    (result : (∃ results, i = .lampFrameResult results ∧ value = frameValue results) ∨
      (∃ c cls leakage offset, i = .cableResult c cls leakage offset ∧ value = cableValue c cls leakage offset)) :
    exec i s = .next ((s.taking i).evaluateAll value) := by
  obtain ⟨results, rfl, rfl⟩ | ⟨c, cls, leakage, offset, rfl, rfl⟩ := result
  · exact next_event ready
  · exact next_event ready

theorem holds_iff {k : Comparator} {x : Int} :
    k.holds x = true ↔
      k.condition = .above ∧ k.limit < x ∨ k.condition = .below ∧ x < k.limit ∨ k.condition = .equal ∧ x = k.limit ∨
      k.condition = .notEqual ∧ x ≠ k.limit := by
  unfold Comparator.holds
  cases k.condition <;> simp

/-- Settles O53: the comparisons; then each qualifier left alone or evaluated, and all that those which fire raise and
send. -/
theorem qualifiersEvaluated : Obligations.QualifiersEvaluated := by
  refine ⟨fun k x => holds_iff, fun s i value ready result => ?_⟩
  obtain ⟨t, t_eq⟩ : ∃ t, t = s.taking i := ⟨_, rfl⟩
  have same : t.quals = s.quals ∧ t.faults = s.faults ∧ t.outbox = s.outbox.erase i ∧ t.nowSec = s.nowSec := by
    rw [t_eq]
    exact ⟨rfl, rfl, rfl, rfl⟩
  obtain ⟨quals, faults, outbox, now⟩ := same
  have taken : exec i s = .next (t.evaluateAll value) := by
    rw [t_eq]
    refine exec_result ready ?_
    simp only [frameValue_eq, cableValue_eq]
    exact result
  obtain ⟨u_quals, u_faults, u_outbox, rest⟩ := qualifiersTaken value (List.nodup_finRange 4) t
  rw [← State.evaluateAll] at u_quals u_faults u_outbox rest
  refine ⟨_, taken, fun q => ⟨fun still => ?_, fun x a b happens armed given a_eq b_eq rule => ?_⟩, fun fired fired_iff => ?_, ?_⟩
  · rw [u_quals q, if_pos (List.mem_finRange q), quals, evaluated_still still]
  · have parts := evaluate_eq (happens := happens) a_eq b_eq armed (fun is => by rw [rule, is]) (fun is => by rw [rule, is])
      (fun is => by rw [rule, is]) fun is => by rw [rule, is]
    have evaluated := (evaluated_taken armed given).trans parts
    refine ⟨?_, fun event last => ?_⟩
    · rw [u_quals q, if_pos (List.mem_finRange q), quals, evaluated]
    · have fires : (s.quals[q].evaluated value).2 = true := by
        rw [evaluated, event, last]
        rfl
      have member : q ∈ (List.finRange 4).filter fun q => (s.quals[q].evaluated value).2 :=
        List.mem_filter.mpr ⟨List.mem_finRange q, fires⟩
      have sent : ∀ j ∈ actionMessages s.quals[q].action, j ∈ (t.evaluateAll value).outbox := fun j message => by
        rw [u_outbox, quals]
        exact List.mem_append_right _ (List.mem_flatMap.mpr ⟨q, member, message⟩)
      refine ⟨fun room => ?_, fun hold => sent _ ?_, fun flash => sent _ ?_⟩
      · rw [u_faults, quals, faults]
        have few := List.length_filter_le (fun q => (s.quals[q].evaluated value).2) (List.finRange 4)
        rw [List.length_finRange] at few
        exact firedFor_active ((Nat.add_le_add_left few _).trans room) (.inr member)
      · rw [hold]
        exact List.mem_singleton_self _
      · rw [flash]
        exact List.mem_singleton_self _
  · have same_fired : fired = fun q => (s.quals[q].evaluated value).2 := by
      funext q
      rw [Bool.eq_iff_iff, fired_iff, evaluated_fired, u_quals q, if_pos (List.mem_finRange q), quals]
    rw [same_fired, u_faults, u_outbox, quals, faults, outbox, now]
    refine ⟨rfl, congrArg _ (List.flatMap_congr fun q _ => ?_)⟩
    cases s.quals[q].action <;> rfl
  · rw [rest, t_eq]
    rfl

end Sys2Proof.Machine
end

section
/-! The requests on scanning and lamps: WRITE_SCAN (R102), WRITE_LAMP (R121) and LEARN (R120). -/

namespace Sys2Proof.Machine

/-! ## WRITE_SCAN -/

theorem exec_writeScan {s : State} (ready : s.loading = false) (k f n : Nat) :
    exec (.writeScan k f n) s = .next ((reqWriteScan k f n s).1.respond .plan 28 (reqWriteScan k f n s).2) :=
  congrArg Host.Outcome.next (serve_permitted ready (by decide))

theorem isX_eq (c : CoreId) : isX c = decide (letterOf c = .X) := by
  revert c
  decide

theorem within_eq_false {lo hi n : Nat} (outside : n < lo ∨ hi < n) : within lo hi n = false := by
  rw [Bool.eq_false_iff, Ne, within_iff]
  omega

/-- The accepted arguments of a WRITE_SCAN, else RANGE (R102). -/
theorem reqWriteScan_idle {s : State} (stopped : isStopped s.engine.mode = true) (idle : s.saving = false) {k f n : Nat} :
    (2 ≤ k ∨ n < 10 ∨ 200 < n → reqWriteScan k f n s = refuse .range s) ∧
    (∀ m, k = codeOf scanModes m → 10 ≤ n → n ≤ 200 →
      reqWriteScan k f n s = okay (s.onLamps (LampUnit.writeScan m f n))) := by
  unfold reqWriteScan
  rw [stopped, idle, if_neg (by decide), if_neg (by decide)]
  refine ⟨fun outside => ?_, fun m code low high => ?_⟩
  · obtain past | outside := outside
    · rw [valueOf_of_length_le past]
    · rw [within_eq_false outside]
      cases valueOf scanModes k <;> rfl
  · rw [code, valueOf_codeOf (by cases m <;> decide), within_iff.mpr ⟨low, high⟩]
    rfl

/-- A change of scan mode takes the X aspects' latches and empties the frame (R102). -/
theorem changeMode_scan (m : ScanMode) (u : LampUnit) (c : CoreId) :
    (u.changeMode m).scan[c] =
      { u.scan[c] with latched := if letterOf c = .X then .none else u.scan[c].latched, reading := none,
                       changed := false } := by
  have bank : (u.changeMode m).scan = mapBank (fun a : ScanAspect => { a with reading := none, changed := false })
      (Vector.ofFn fun c => if isX c then { u.scan[c] with latched := .none } else u.scan[c]) := rfl
  rw [bank, mapBank_getElem, Fin.getElem_fin, Vector.getElem_ofFn, isX_eq]
  by_cases x : letterOf c = .X
  · rw [if_pos x, if_pos (decide_eq_true x)]
  · rw [if_neg x, if_neg (by rw [decide_eq_false x]; nofun)]

theorem changeMode_lamps (m : ScanMode) (u : LampUnit) (c : CoreId) :
    (u.changeMode m).lamps[c] =
      { u.lamps[c] with
        lastClass := if letterOf c = .X ∧ m = .threeRow then .unscanned else u.lamps[c].lastClass } := by
  have bank : (u.changeMode m).lamps = Vector.ofFn fun c =>
      if isX c && m == .threeRow then { u.lamps[c] with lastClass := .unscanned } else u.lamps[c] := rfl
  have both_iff : (isX c && m == .threeRow) = true ↔ letterOf c = .X ∧ m = .threeRow := by
    rw [isX_eq, Bool.and_eq_true_iff, decide_eq_true_iff, beq_iff_eq]
  rw [bank, Fin.getElem_fin, Vector.getElem_ofFn]
  by_cases both : letterOf c = .X ∧ m = .threeRow
  · rw [if_pos both, if_pos (both_iff.mpr both)]
  · rw [if_neg both, if_neg (mt both_iff.mp both)]

/-- Settles O42: the refusals in their order, then the effect with the scan mode kept and with it changed. -/
theorem scanWritten : Obligations.ScanWritten := by
  intro s m k f n ready
  rw [exec_writeScan ready]
  refine ⟨fun running => ?_, fun stopped saving => ?_, fun stopped idle => ⟨fun outside => ?_, fun code low high => ?_⟩⟩
  · rw [reqWriteScan, if_pos (by rw [running]; rfl)]
    rfl
  · rw [reqWriteScan, if_neg (by rw [stopped]; nofun), if_pos saving]
    rfl
  · rw [(reqWriteScan_idle stopped idle).1 outside]
    rfl
  · rw [(reqWriteScan_idle stopped idle).2 m code low high]
    refine ⟨s.lamps.writeScan m f n, rfl, fun same => ?_, fun other => ⟨?_, fun c => ?_⟩⟩
    · rw [LampUnit.writeScan, if_pos same]
      rfl
    · rw [LampUnit.writeScan, if_neg other]
      rfl
    · have scan : (s.lamps.writeScan m f n).scan = (s.lamps.changeMode m).scan := by rw [LampUnit.writeScan, if_neg other]
      have lamps : (s.lamps.writeScan m f n).lamps = (s.lamps.changeMode m).lamps := by
        rw [LampUnit.writeScan, if_neg other]
      rw [scan, lamps, changeMode_scan, changeMode_lamps]
      exact ⟨rfl, rfl⟩

/-! ## WRITE_LAMP -/

theorem referenceFloor_eq (t : LampType) : referenceFloor t = if t = .filament then 16 else 320 := by
  cases t <;> rfl

theorem referenceFloor_ge (t : LampType) : 16 ≤ referenceFloor t := by
  cases t <;> decide

/-- The arguments of a WRITE_LAMP are taken exactly when each lies in its range (R1, R111, R121). -/
theorem lampConfig_eq_some {group : GroupType} {letter : Letter} {n ty b d l tol zc : Nat} {k : LampConfig} :
    lampConfig group letter n ty b d l tol zc = some k ↔
      ∃ t z, valueOf lampTypes ty = some t ∧ flagArg zc = some z ∧
        (n ≤ 4 ∧ (n = 0 ∨ notFitted group letter = false) ∧ referenceFloor t ≤ b ∧ b ≤ 65520 ∧ referenceFloor t ≤ d ∧
          d ≤ 65520 ∧ l ≤ 200) ∧
        k = { fitted := n, type := t, bright := b, dim := d, leak := l, tolerance := max 1 (min 8 tol), frozen := z } := by
  have ranges : ∀ t, (within 0 4 n && !(decide (0 < n) && notFitted group letter) && within (referenceFloor t) 65520 b &&
      within (referenceFloor t) 65520 d && within 0 200 l) = true ↔
      n ≤ 4 ∧ (n = 0 ∨ notFitted group letter = false) ∧ referenceFloor t ≤ b ∧ b ≤ 65520 ∧ referenceFloor t ≤ d ∧
        d ≤ 65520 ∧ l ≤ 200 := fun t => by
    simp [within, and_assoc, Nat.pos_iff_ne_zero]
  unfold lampConfig
  simp only [Option.bind_eq_bind, Option.bind_eq_some_iff, Option.ite_none_right_eq_some, Option.pure_def,
    Option.some.injEq, ranges]
  constructor
  · rintro ⟨t, type, z, flag, inside, rfl⟩
    exact ⟨t, z, type, flag, inside, rfl⟩
  · rintro ⟨t, z, type, flag, inside, rfl⟩
    exact ⟨t, type, z, flag, inside, rfl⟩

theorem exec_writeLamp {s : State} (ready : s.loading = false) (a n ty b d l tol zc : Nat) :
    exec (.writeLamp a n ty b d l tol zc) s =
      .next ((reqWriteLamp a n ty b d l tol zc s).1.respond .plan 31 (reqWriteLamp a n ty b d l tol zc s).2) :=
  congrArg Host.Outcome.next (serve_permitted ready (by decide))

theorem reqWriteLamp_range {s : State} (idle : s.saving = false) {a n ty b d l tol zc : Nat}
    (outside : ∀ c k, coreNumber a = some c →
      lampConfig (s.typeOf (groupOf c)) (letterOf c) n ty b d l tol zc ≠ some k) :
    reqWriteLamp a n ty b d l tol zc s = refuse .range s := by
  rw [reqWriteLamp, idle, if_neg (by decide)]
  cases named : coreNumber a with
  | none => rfl
  | some c =>
    dsimp only
    rw [Option.eq_none_iff_forall_ne_some.mpr fun k => outside c k named]

theorem reqWriteLamp_taken {s : State} (idle : s.saving = false) {c : CoreId} {n ty b d l tol zc : Nat} {k : LampConfig}
    (config : lampConfig (s.typeOf (groupOf c)) (letterOf c) n ty b d l tol zc = some k) :
    reqWriteLamp (c.val + 1) n ty b d l tol zc s = okay (s.writeLamp c k) := by
  rw [reqWriteLamp, idle, if_neg (by decide), coreNumber, numbered_val_add_one]
  dsimp only
  rw [config]

/-! ## What a new fitted count does to cable testing -/

/-- A selection of the Cable Test Unit depends on the commands, the fitted counts, the unit and the time alone (R137). -/
theorem select_cable_congr {s t : State} (engine : s.engine = t.engine) (lamps : s.lamps.lamps = t.lamps.lamps)
    (cable : s.cable = t.cable) (now : s.uptimeMs = t.uptimeMs) : s.select.cable = t.select.cable := by
  have fitted : s.fitted = t.fitted := funext fun c => by rw [State.fitted, State.fitted, lamps]
  have eligible : s.eligible = t.eligible := funext fun c => by
    rw [State.eligible, State.eligible, fitted, State.command, State.command, engine]
  have selected : ∀ u : State, u.select.cable =
      { u.cable.selected u.eligible u.nowMs with
        unitState := (u.cable.selected u.eligible u.nowMs).stateOf u.fitted } := fun _ => rfl
  rw [selected, selected, cable, eligible, fitted, State.nowMs, State.nowMs, now]

/-- A selection puts no test on a core that is not eligible, and no core into the queue (R137). -/
theorem selected_only_eligible (elig : CoreId → Bool) (now : Clock) (u : CableUnit) :
    (∀ f, (u.selected elig now).flight = some f → u.flight = some f ∨ elig f.core = true) ∧
      (∀ e ∈ (u.selected elig now).queue, ∃ e' ∈ u.queue, e'.core = e.core) := by
  unfold CableUnit.selected
  split
  · exact ⟨fun f flying => .inl flying, fun e mem => ⟨e, mem, rfl⟩⟩
  · have marked : ∀ e ∈ markSeen elig u.queue, ∃ e' ∈ u.queue, e'.core = e.core := fun e mem => by
      rw [markSeen_eq] at mem
      obtain ⟨e', there, rfl⟩ := List.mem_map.mp mem
      exact ⟨e', there, rfl⟩
    split
    · next c source picked =>
      refine ⟨fun f flying => .inr ?_, ?_⟩
      · rw [← Option.some.inj flying]
        exact pick_eligible picked
      · cases source
        · intro e mem
          obtain ⟨e', there, rfl⟩ := List.mem_map.mp mem
          obtain ⟨e'', here, same⟩ := marked e' there
          refine ⟨e'', here, same.trans ?_⟩
          split <;> rfl
        · exact marked
    · exact ⟨fun f flying => .inl flying, marked⟩

/-- The cable unit once a core that is no longer fitted has left its test and its queue (R136; log 20). -/
def State.coreDropped (c : CoreId) (s : State) : CableUnit :=
  match s.cable.flight with
  | some f =>
    if f.core = c then
      { s.cable with
        queue := s.cable.queue.filter fun e => e.core ≠ c
        flight := none
        lastTestEnd := s.nowMs
        intervalPassed := false
        intervalTimer := true
        cyclicRunning := s.cable.cyclicRunning && !s.cable.stopWaiting
        stopWaiting := false
        records := put s.cable.records c
          { s.cable.records[c] with
            cls := .interrupted
            interrupted := min 255 (s.cable.records[c].interrupted + 1)
            lastTest := s.nowSec } }
    else { s.cable with queue := s.cable.queue.filter fun e => e.core ≠ c }
  | none => { s.cable with queue := s.cable.queue.filter fun e => e.core ≠ c }

theorem filter_core_ne (queue : List QueueEntry) (c : CoreId) :
    (queue.filter fun e => !(e.core == c)) = queue.filter fun e => e.core ≠ c :=
  List.filter_congr fun e _ => by rw [Bool.eq_iff_iff]; simp

theorem aborted_filter {f : Flight} {c : CoreId} {queue : List QueueEntry} (now : Clock) (on_core : f.core = c) :
    (f.abortedQueue .removed now queue).filter (fun e => e.core ≠ c) = queue.filter fun e => e.core ≠ c := by
  unfold Flight.abortedQueue
  cases f.source
  · dsimp only
    rw [on_core, filter_core_ne, List.filter_filter]
    exact List.filter_congr fun e _ => Bool.and_self _
  · rfl

theorem coreDropped_free {s : State} {c : CoreId} (free : ∀ f, s.cable.flight = some f → f.core ≠ c) :
    s.coreDropped c = { s.cable with queue := s.cable.queue.filter fun e => e.core ≠ c } := by
  unfold State.coreDropped
  split
  · next f flying => exact if_neg (free f flying)
  · rfl

theorem coreDropped_tested {s : State} {c : CoreId} {f : Flight} (flying : s.cable.flight = some f) (on_core : f.core = c) :
    s.coreDropped c =
      { s.cable with
        queue := s.cable.queue.filter fun e => e.core ≠ c
        flight := none
        lastTestEnd := s.nowMs
        intervalPassed := false
        intervalTimer := true
        cyclicRunning := s.cable.cyclicRunning && !s.cable.stopWaiting
        stopWaiting := false
        records := put s.cable.records c
          { s.cable.records[c] with
            cls := .interrupted
            interrupted := min 255 (s.cable.records[c].interrupted + 1)
            lastTest := s.nowSec } } := by
  unfold State.coreDropped
  rw [flying]
  exact if_pos on_core

/-- The abort or its absence, before the queue is thinned (R136). -/
def State.testDropped (c : CoreId) (s : State) : State :=
  match s.cable.flight with
  | some f => if f.core = c then s.abortFlight .removed f else s
  | none => s

theorem testDropped_filtered (c : CoreId) (s : State) :
    ((s.testDropped c).onCable fun u => { u with queue := u.queue.filter fun e => !(e.core == c) }) =
      { s with cable := s.coreDropped c } := by
  unfold State.testDropped
  split
  · next f flying =>
    split
    · next on_core =>
      rw [coreDropped_tested flying on_core, State.onCable, filter_core_ne, abortFlight_eq]
      dsimp only
      rw [aborted_filter s.nowMs on_core, on_core]
      rfl
    · next elsewhere =>
      rw [coreDropped_free fun f' flying' => ?_, State.onCable, filter_core_ne]
      rwa [← Option.some.inj (flying.symm.trans flying')]
  · next free => rw [coreDropped_free (fun f' flying' => by rw [free] at flying'; cases flying'), State.onCable, filter_core_ne]

theorem fittedChanged_zero {s : State} {c : CoreId} (unfitted : s.fitted c = 0) :
    s.fittedChanged c = State.select { s with cable := s.coreDropped c } := by
  rw [← testDropped_filtered]
  unfold State.fittedChanged
  rw [if_pos unfitted]
  rfl

theorem fittedChanged_fitted {s : State} {c : CoreId} (fitted : s.fitted c ≠ 0) : s.fittedChanged c = s.select := by
  unfold State.fittedChanged
  rw [if_neg fitted]

/-! ## What an accepted WRITE_LAMP leaves -/

/-- Beside the cable unit, a WRITE_LAMP moves the lamp's record, the latch and three faults alone (R121). -/
theorem writeLamp_only (c : CoreId) (k : LampConfig) (s : State) :
    s.writeLamp c k =
      { s with
        lamps := (s.lampWritten c k).lamps
        cable := (s.writeLamp c k).cable
        faults := (s.lampWritten c k).faults } := by
  rw [writeLamp_eq]
  split
  · rfl
  · rw [fittedChanged_only]
    rfl

theorem writeLamp_lamps (c : CoreId) (k : LampConfig) (s : State) : (s.writeLamp c k).lamps = (s.lampWritten c k).lamps := by
  rw [writeLamp_only]

theorem writeLamp_faults (c : CoreId) (k : LampConfig) (s : State) :
    (s.writeLamp c k).faults = (s.lampWritten c k).faults := by
  rw [writeLamp_only]

theorem lampWritten_fitted_self (c : CoreId) (k : LampConfig) (s : State) : (s.lampWritten c k).fitted c = k.fitted := by
  rw [lampWritten_fitted, if_pos rfl]

theorem writeLamp_cable_same {c : CoreId} {k : LampConfig} {s : State} (same : k.fitted = s.fitted c) :
    (s.writeLamp c k).cable = s.cable := by
  rw [writeLamp_eq, if_pos same]
  rfl

theorem writeLamp_cable_fitted {c : CoreId} {k : LampConfig} {s : State} (fitted : k.fitted ≠ 0)
    (other : k.fitted ≠ s.fitted c) :
    (s.writeLamp c k).cable = (State.select { s with lamps := (s.writeLamp c k).lamps }).cable := by
  rw [writeLamp_lamps, writeLamp_eq, if_neg other, fittedChanged_fitted (by rw [lampWritten_fitted_self]; exact fitted)]
  exact select_cable_congr rfl rfl rfl rfl

theorem writeLamp_cable_dropped {c : CoreId} {k : LampConfig} {s : State} (unfitted : k.fitted = 0)
    (other : k.fitted ≠ s.fitted c) :
    (s.writeLamp c k).cable =
      (State.select { s with lamps := (s.writeLamp c k).lamps, cable := s.coreDropped c }).cable := by
  rw [writeLamp_lamps, writeLamp_eq, if_neg other, fittedChanged_zero ((lampWritten_fitted_self c k s).trans unfitted)]
  exact select_cable_congr rfl rfl rfl rfl

theorem coreDropped_flight {s : State} {c : CoreId} {f : Flight} (flying : (s.coreDropped c).flight = some f) :
    f.core ≠ c := by
  cases tested : s.cable.flight with
  | none =>
    rw [coreDropped_free (fun f' flying' => by rw [tested] at flying'; cases flying')] at flying
    rw [show _ = none from tested] at flying
    cases flying
  | some f' =>
    by_cases on_core : f'.core = c
    · rw [coreDropped_tested tested on_core] at flying
      cases flying
    · rw [coreDropped_free (fun f'' flying' => by rwa [← Option.some.inj (tested.symm.trans flying')])] at flying
      rwa [← Option.some.inj (tested.symm.trans flying)]

theorem coreDropped_queue (s : State) (c : CoreId) :
    (s.coreDropped c).queue = s.cable.queue.filter fun e => e.core ≠ c := by
  unfold State.coreDropped
  split
  · split <;> rfl
  · rfl

/-- A core that is no longer fitted is neither in test nor in the queue (R136). -/
theorem writeLamp_unfitted {c : CoreId} {k : LampConfig} {s : State} (unfitted : k.fitted = 0)
    (other : k.fitted ≠ s.fitted c) :
    (∀ f, (s.writeLamp c k).cable.flight = some f → f.core ≠ c) ∧ (∀ e ∈ (s.writeLamp c k).cable.queue, e.core ≠ c) := by
  rw [writeLamp_cable_dropped unfitted other]
  obtain ⟨t, t_eq⟩ : ∃ t, t = ({ s with lamps := (s.writeLamp c k).lamps, cable := s.coreDropped c } : State) := ⟨_, rfl⟩
  have cable : t.cable = s.coreDropped c := by rw [t_eq]
  have dark : t.eligible c = false := by
    have none : t.fitted c = 0 := by
      rw [t_eq, ← unfitted, ← lampWritten_fitted_self c k s, writeLamp_lamps]
      rfl
    rw [State.eligible, none]
    rfl
  rw [← t_eq]
  obtain ⟨flight, queue⟩ := selected_only_eligible t.eligible t.nowMs t.cable
  refine ⟨fun f flying => ?_, fun e mem => ?_⟩
  · obtain before | eligible := flight f flying
    · rw [cable] at before
      exact coreDropped_flight before
    · intro same
      rw [same, dark] at eligible
      cases eligible
  · obtain ⟨e', there, same⟩ := queue e mem
    rw [cable, coreDropped_queue] at there
    rw [← same]
    exact of_decide_eq_true (List.mem_filter.mp there).2

/-- None of the three faults of a lamp written stays ACTIVE (R121). -/
theorem lampWritten_cleared {c : CoreId} {k : LampConfig} {s : State} {r : FaultRecord}
    (member : r ∈ (s.lampWritten c k).faults.records) (subject : r.subject = .aspect c)
    (kind : r.kind = .lampUncertain ∨ r.kind = .lampOverload ∨ r.kind = .unexpectedCurrent) : r.state = .inactive := by
  obtain uncertain | overload | unexpected := kind
  · have first := (clear_other (by rw [uncertain]; decide)).mp ((clear_other (by rw [uncertain]; decide)).mp member)
    exact clear_inactive first uncertain subject
  · exact clear_inactive ((clear_other (by rw [overload]; decide)).mp member) overload subject
  · exact clear_inactive member unexpected subject

theorem exec_learn {s : State} (ready : s.loading = false) (a : Nat) :
    exec (.learn a) s = .next ((reqLearn a s).1.respond .maintenance 32 (reqLearn a s).2) :=
  congrArg Host.Outcome.next (serve_permitted ready (by decide))

theorem rowLeftOut_iff {mode : ScanMode} {letter : Letter} :
    rowLeftOut mode letter = true ↔ mode = .threeRow ∧ letter = .X := by
  simp [rowLeftOut]

theorem flagArg_ite (z : Bool) : flagArg (if z then 1 else 0) = some z := by
  cases z <;> rfl

/-- Settles O43: WRITE_LAMP's refusals and its effect in parts, then LEARN's. -/
theorem lampWritten : Obligations.LampWritten := by
  intro s c t z a n ty b d l tol zc ready
  rw [exec_writeLamp ready, exec_learn ready]
  refine ⟨fun saving => ?_, fun idle outside => ?_, fun idle number code flag => ⟨fun outside => ?_,
    fun suits few low high dim_low dim_high leak => ?_⟩, fun outside => ?_, fun number outside => ?_,
    fun number fitted scanned => ?_⟩
  · rw [reqWriteLamp, if_pos saving]
    rfl
  · rw [reqWriteLamp_range idle fun d' k named config => ?_]
    · rfl
    · obtain ⟨t', z', type, frozen, ⟨few, -, low, high, dim_low, dim_high, leak⟩, -⟩ := lampConfig_eq_some.mp config
      have floor := referenceFloor_ge t'
      have listed : ty < 2 := by
        by_contra past
        rw [valueOf_of_length_le (values := lampTypes) (Nat.not_lt.mp past)] at type
        cases type
      have flagged := (flagArg_eq_some.mp frozen).1
      have there : a ≠ 0 ∧ a ≤ 64 := by
        by_contra gone
        rw [coreNumber, numbered_of_outside (by omega)] at named
        cases named
      omega
  · rw [reqWriteLamp_range idle fun d' k named config => ?_]
    · rfl
    · obtain ⟨t', z', type, -, ⟨-, suits, low, -, dim_low, -, -⟩, -⟩ := lampConfig_eq_some.mp config
      rw [number, coreNumber, numbered_val_add_one] at named
      obtain rfl := Option.some.inj named
      rw [code, valueOf_codeOf (by cases t <;> decide)] at type
      obtain rfl := Option.some.inj type
      rw [← referenceFloor_eq] at outside
      obtain ⟨some_lamps, unsuited⟩ | short | short := outside
      · exact suits.elim (Nat.ne_of_gt some_lamps) fun suited => by rw [suited] at unsuited; cases unsuited
      · omega
      · omega
  · obtain ⟨k, k_eq⟩ : ∃ k : LampConfig, k =
        { fitted := n, type := t, bright := b, dim := d, leak := l, tolerance := max 1 (min 8 tol), frozen := z } := ⟨_, rfl⟩
    have config : lampConfig (s.typeOf (groupOf c)) (letterOf c) n ty b d l tol zc = some k := by
      refine lampConfig_eq_some.mpr ⟨t, z, ?_, ?_, ⟨few, suits, ?_, high, ?_, dim_high, leak⟩, k_eq⟩
      · rw [code, valueOf_codeOf (by cases t <;> decide)]
      · rw [flag, flagArg_ite]
      · rwa [referenceFloor_eq]
      · rwa [referenceFloor_eq]
    obtain rfl : k.fitted = n := by rw [k_eq]
    obtain ⟨w, w_eq⟩ : ∃ w, w = s.writeLamp c k := ⟨_, rfl⟩
    rw [number, reqWriteLamp_taken idle config, ← w_eq]
    refine ⟨w.ok .plan 31 [], rfl, ?_⟩
    simp only [State.ok, State.respond_lamps, State.respond_cable, State.respond_faults]
    have lamps := writeLamp_lamps c k s
    have faults := writeLamp_faults c k s
    rw [← w_eq] at lamps faults
    refine ⟨?_, fun r member subject kind => ?_, fun same => ?_, fun some_lamps other => ?_, fun unfitted other => ?_, ?_, ?_⟩
    · rw [lamps, k_eq]
      rfl
    · rw [faults] at member
      exact lampWritten_cleared member subject kind
    · rw [w_eq, writeLamp_cable_same same]
    · rw [w_eq]
      exact writeLamp_cable_fitted (Nat.ne_of_gt some_lamps) other
    · have dropped := writeLamp_cable_dropped unfitted other
      obtain ⟨flight, queue⟩ := writeLamp_unfitted unfitted other
      rw [← w_eq] at dropped flight queue
      refine ⟨flight, queue, fun left left_eq => ⟨fun free => ?_, fun f flying on_core => ?_⟩⟩
      · rw [dropped, coreDropped_free free, left_eq]
      · rw [dropped, coreDropped_tested flying on_core, left_eq]
    · rw [faults]
      rfl
    · have whole := writeLamp_only c k s
      rw [← w_eq, ← lamps, ← faults] at whole
      rw [← whole]
  · rw [reqLearn, coreNumber, numbered_of_outside outside]
    rfl
  · rw [reqLearn, number, coreNumber, numbered_val_add_one]
    refine congrArg Host.Outcome.next (congrArg (fun p : State × Answer => p.1.respond .maintenance 32 p.2) (if_pos ?_))
    rw [Bool.or_eq_true, beq_iff_eq, rowLeftOut_iff]
    exact outside
  · rw [reqLearn, number, coreNumber, numbered_val_add_one]
    refine congrArg Host.Outcome.next (congrArg (fun p : State × Answer => p.1.respond .maintenance 32 p.2) (if_neg ?_))
    rw [Bool.or_eq_true, beq_iff_eq, rowLeftOut_iff]
    exact not_or.mpr ⟨Nat.ne_of_gt fitted, scanned⟩

end Sys2Proof.Machine
end

section
/-! How an aspect's reading is judged in a frame (R105, R112 to R120, R122 to R125). -/

namespace Sys2Proof.Machine

/-! ## The class -/

theorem rowOut_iff {u : LampUnit} {c : CoreId} :
    (rowLeftOut u.scanMode (letterOf c) || u.lamps[c].fitted == 0) = true ↔
      (u.scanMode = .threeRow ∧ letterOf c = .X) ∨ u.lamps[c].fitted = 0 := by
  rw [Bool.or_eq_true, rowLeftOut_iff, beq_iff_eq]

theorem classify_unscanned {u : LampUnit} {c : CoreId}
    (out : (u.scanMode = .threeRow ∧ letterOf c = .X) ∨ u.lamps[c].fitted = 0) : u.classify c = .unscanned :=
  if_pos (rowOut_iff.mpr out)

/-- The class of an aspect with a reading: the first condition of R105 that holds. -/
theorem classify_reading {u : LampUnit} {c : CoreId} {r : Reading} (reading : u.scan[c].reading = some r) :
    u.classify c =
      if (u.scanMode = .threeRow ∧ letterOf c = .X) ∨ u.lamps[c].fitted = 0 then .unscanned
      else if r.senseOpen = true then .senseFault
      else if 0 < u.scan[c].settle ∨ u.scan[c].changed = true ∨ u.dimChanged = true then .stale
      else if u.scan[c].latched = .lit then (if r.raw = 4095 then .saturated else .lit)
      else if r.raw ≤ u.lamps[c].leak + u.threshold then .darkOk
      else .unexpected := by
  have stale : (decide (0 < u.scan[c].settle) || u.scan[c].changed || u.dimChanged) = true ↔
      0 < u.scan[c].settle ∨ u.scan[c].changed = true ∨ u.dimChanged = true := by
    simp [or_assoc]
  unfold LampUnit.classify
  dsimp only
  rw [reading]
  exact if_congr rowOut_iff rfl (if_congr Iff.rfl rfl (if_congr stale rfl (if_congr beq_iff_eq rfl rfl)))

/-! ## The count of a LIT reading -/

/-- The estimate is the nearest whole number of lamps (R114). -/
theorem estimate_spec {net i : Nat} (positive : 0 < i) :
    2 * estimate net i * i ≤ 32 * net + i ∧ 32 * net + i < 2 * (estimate net i + 1) * i := by
  have low := Nat.div_mul_le_self (32 * net + i) (2 * i)
  have high := Nat.lt_div_mul_add (a := 32 * net + i) (b := 2 * i) (by omega)
  unfold estimate
  generalize (32 * net + i) / (2 * i) = k at low high ⊢
  constructor
  · calc 2 * k * i = k * (2 * i) := by ring
      _ ≤ 32 * net + i := low
  · calc 32 * net + i < k * (2 * i) + 2 * i := high
      _ = 2 * (k + 1) * i := by ring

theorem residualDoubtful_iff {net k i tolerance : Nat} :
    residualDoubtful net k i tolerance = true ↔ i * tolerance < 16 * ((16 * net : Int) - k * i).natAbs :=
  decide_eq_true_iff

/-- The candidate and the proven count after an estimate that counts (R116). -/
theorem count_eq (k f : Nat) (l : Lamp) {run : Nat}
    (run_eq : run = if k = l.candidate then min 15 (l.candidateRun + 1) else 1) :
    l.count k f = { l with candidate := k, candidateRun := run, proven := if f ≤ run then k else l.proven } := by
  have moved : (if k = l.candidate then { l with candidateRun := saturate 15 (l.candidateRun + 1) }
      else { l with candidate := k, candidateRun := 1 }) = { l with candidate := k, candidateRun := run } := by
    rw [run_eq, saturate]
    split
    · next same => rw [same]
    · rfl
  unfold Lamp.count
  rw [moved]
  dsimp only
  by_cases stands : f ≤ run
  · rw [if_pos stands]
    split
    · rfl
    · next same =>
      rw [not_and, not_ne_iff] at same
      rw [same stands]
  · rw [if_neg stands, if_neg fun both => stands both.1]

theorem clampReference_eq {t : LampType} {x : Int} {n : Nat}
    (n_eq : (n : Int) = max ((if t = .filament then 16 else 320 : Nat) : Int) (min 65520 x)) : clampReference t x = n := by
  unfold clampReference clampInt
  rw [referenceFloor_eq, ← n_eq, Int.toNat_natCast]

/-- A lamp's active reference replaced, as its two references written (R112). -/
theorem setActive_eq (l : Lamp) (dimOn : Bool) (n : Nat) :
    l.setActive dimOn n =
      { l with bright := if dimOn then l.bright else n, dim := if dimOn then n else l.dim } := by
  cases dimOn <;> rfl

theorem takeLit_doubtful {l : Lamp} {dimOn : Bool} {f raw i net k : Nat} (i_eq : i = if dimOn then l.dim else l.bright)
    (net_eq : net = raw - l.leak) (k_eq : k = estimate net i)
    (doubtful : l.fitted < k ∨ i * l.tolerance < 16 * ((16 * net : Int) - k * i).natAbs) :
    l.takeLit dimOn f raw =
      { lamp := { l with doubtfulRun := min 15 (l.doubtfulRun + 1) }, evidence := decide (l.fitted < k), doubtful := true,
        certain := false } := by
  rw [← residualDoubtful_iff, ← decide_eq_true_iff (p := l.fitted < k), ← Bool.or_eq_true] at doubtful
  subst k_eq net_eq i_eq
  exact if_pos doubtful

theorem takeLit_counted {l : Lamp} {dimOn : Bool} {f raw i net k run proven learnt least : Nat}
    (i_eq : i = if dimOn then l.dim else l.bright) (net_eq : net = raw - l.leak) (k_eq : k = estimate net i)
    (within : k ≤ l.fitted) (near : 16 * ((16 * net : Int) - k * i).natAbs ≤ i * l.tolerance)
    (run_eq : run = if k = l.candidate then min 15 (l.candidateRun + 1) else 1)
    (proven_eq : proven = if f ≤ run then k else l.proven)
    (least_eq : least = if l.type = .filament then 16 else 320)
    (learnt_eq : (learnt : Int) = if k = l.fitted ∧ proven = l.fitted ∧ l.frozen = false ∧ l.learn = .none then
        max (least : Int) (min 65520 ((i : Int) + ((16 * net / l.fitted : Nat) - (i : Int)).tdiv 16)) else (i : Int)) :
    l.takeLit dimOn f raw =
      { lamp :=
          { l with
            doubtfulRun := 0
            candidate := k
            candidateRun := run
            proven := proven
            bright := if dimOn then l.bright else learnt
            dim := if dimOn then learnt else l.dim }
        evidence := false
        doubtful := false
        certain := true } := by
  have certain : ¬ (decide (l.fitted < k) || residualDoubtful net k i l.tolerance) = true := by
    rw [Bool.or_eq_true, decide_eq_true_iff, residualDoubtful_iff]
    omega
  have taken : l.takeLit dimOn f raw =
      { lamp :=
          if k = (Lamp.count k f { l with doubtfulRun := 0 }).fitted ∧
              (Lamp.count k f { l with doubtfulRun := 0 }).proven = (Lamp.count k f { l with doubtfulRun := 0 }).fitted ∧
              (Lamp.count k f { l with doubtfulRun := 0 }).frozen = false ∧
              (Lamp.count k f { l with doubtfulRun := 0 }).learn = .none then
            (Lamp.count k f { l with doubtfulRun := 0 }).learnStep dimOn net
          else Lamp.count k f { l with doubtfulRun := 0 },
        evidence := false, doubtful := false, certain := true } := by
    rw [i_eq, net_eq] at k_eq certain
    rw [k_eq] at certain ⊢
    rw [net_eq]
    exact if_neg certain
  rw [taken, count_eq k f _ (by exact run_eq), ← proven_eq]
  dsimp only
  by_cases learns : k = l.fitted ∧ proven = l.fitted ∧ l.frozen = false ∧ l.learn = .none
  · rw [if_pos learns] at learnt_eq ⊢
    rw [least_eq, i_eq] at learnt_eq
    rw [Lamp.learnStep, setActive_eq, clampReference_eq (n := learnt) (by exact learnt_eq)]
  · rw [if_neg learns, Int.natCast_inj] at learnt_eq
    rw [if_neg learns, learnt_eq, i_eq]
    cases dimOn <;> rfl

/-! ## The runs and the other classes -/

theorem moveUnexpected_eq (cls : ReadingClass) (l : Lamp) :
    l.moveUnexpected cls =
      { l with unexpectedRun :=
          if cls = .unexpected then min 15 (l.unexpectedRun + 1)
          else if cls = .darkOk ∨ cls = .lit ∨ cls = .saturated then 0 else l.unexpectedRun } := by
  cases cls <;> rfl

/-- A count leaves the overload runs (R116). -/
theorem count_runs (k f : Nat) (l : Lamp) :
    (l.count k f).overloadRun = l.overloadRun ∧ (l.count k f).quietRun = l.quietRun := by
  rw [count_eq k f l rfl]
  exact ⟨rfl, rfl⟩

/-- A LIT reading leaves the overload runs until part 3 (R113). -/
theorem takeLit_runs (l : Lamp) (dimOn : Bool) (f raw : Nat) :
    (l.takeLit dimOn f raw).lamp.overloadRun = l.overloadRun ∧ (l.takeLit dimOn f raw).lamp.quietRun = l.quietRun := by
  unfold Lamp.takeLit
  dsimp only
  split
  · exact ⟨rfl, rfl⟩
  · dsimp only
    split
    · rw [Lamp.learnStep, setActive_eq]
      exact count_runs _ _ _
    · exact count_runs _ _ _

/-- Part 3 of R113 for a LIT reading (R118). -/
theorem moveOverload_lit (evidence : Bool) (l : Lamp) :
    l.moveOverload .lit evidence =
      { l with
        overloadRun := if evidence then min 15 (l.overloadRun + 1) else 0
        quietRun := if evidence then 0 else min 15 (l.quietRun + 1) } := by
  cases evidence <;> rfl

theorem takeClass_lit {l m : Lamp} (letter : Letter) (dimOn : Bool) (f raw : Nat) (m_eq : m = l.moveUnexpected .lit) :
    l.takeClass letter dimOn f .lit raw =
      { m.takeLit dimOn f raw with lamp := (m.takeLit dimOn f raw).lamp.moveOverload .lit (m.takeLit dimOn f raw).evidence } := by
  subst m_eq
  rfl

theorem takeClass_saturated {l m : Lamp} (letter : Letter) (dimOn : Bool) (f raw : Nat)
    (m_eq : m = l.moveUnexpected .saturated) :
    l.takeClass letter dimOn f .saturated raw =
      { lamp := { m with overloadRun := min 15 (m.overloadRun + 1), quietRun := 0 }, evidence := true, doubtful := false,
        certain := false } := by
  subst m_eq
  rfl

/-- A reading of any other class counts nothing, but a sense-open R aspect counts 0 (R117). -/
theorem takeClass_other {l m : Lamp} (letter : Letter) (dimOn : Bool) (f raw : Nat) {cls : ReadingClass}
    (lit : cls ≠ .lit) (saturated : cls ≠ .saturated) (m_eq : m = l.moveUnexpected cls) :
    l.takeClass letter dimOn f cls raw =
      { lamp := if cls = .senseFault ∧ letter = .R then m.count 0 f else m, evidence := false, doubtful := false,
        certain := false } := by
  subst m_eq
  cases cls with
  | lit => exact absurd rfl lit
  | saturated => exact absurd rfl saturated
  | senseFault => cases letter <;> rfl
  | _ => rfl

/-! ## LEARN -/

theorem work_learnLit {l : Lamp} (letter : Letter) (dimOn : Bool) (f raw : Nat) (learn : l.learn = .litPending) :
    l.work letter dimOn f .lit raw =
      { lamp := l.learnLit dimOn raw, evidence := false, doubtful := false, certain := false } := by
  unfold Lamp.work
  rw [learn]

theorem learnLit_eq {l : Lamp} {dimOn : Bool} {raw learnt : Nat}
    (learnt_eq : learnt = max (if l.type = .filament then 16 else 320) (min 65520 (16 * (raw - l.leak) / l.fitted))) :
    l.learnLit dimOn raw =
      { l with
        bright := if dimOn then l.bright else learnt
        dim := if dimOn then learnt else l.dim
        proven := l.fitted
        candidate := l.fitted
        candidateRun := 0
        doubtfulRun := 0
        learn := .none } := by
  have reference : clampReference l.type ((16 * l.net raw / l.fitted : Nat) : Int) = learnt := by
    refine clampReference_eq ?_
    rw [learnt_eq, Lamp.net]
    push_cast
    rfl
  unfold Lamp.learnLit
  rw [reference, setActive_eq]

/-- The dark frame of a LEARN, taken under its class first (R120). -/
theorem work_learnDark {l : Lamp} (letter : Letter) (dimOn : Bool) (f raw : Nat) {cls : ReadingClass}
    (learn : l.learn = .darkPending) (dark : cls = .darkOk ∨ cls = .unexpected) :
    l.work letter dimOn f cls raw =
      { l.takeClass letter dimOn f cls raw with lamp := (l.takeClass letter dimOn f cls raw).lamp.learnDark raw } := by
  unfold Lamp.work
  rw [learn]
  obtain rfl | rfl := dark <;> rfl

/-- An UNSCANNED aspect gives its LEARN up (R120). -/
theorem work_learnDropped {l : Lamp} (letter : Letter) (dimOn : Bool) (f raw : Nat) (learn : l.learn ≠ .none) :
    l.work letter dimOn f .unscanned raw =
      { lamp := { l with learn := .none }, evidence := false, doubtful := false, certain := false } := by
  unfold Lamp.work
  cases pending : l.learn with
  | none => exact absurd pending learn
  | darkPending => rfl
  | litPending => rfl

/-- Every other frame is taken under its class (R113, R120). -/
theorem work_plain {l : Lamp} (letter : Letter) (dimOn : Bool) (f raw : Nat) {cls : ReadingClass}
    (plain : l.learn = .none ∨ l.learn = .darkPending ∧ cls ∉ [ReadingClass.darkOk, .unexpected, .unscanned] ∨
      l.learn = .litPending ∧ cls ∉ [ReadingClass.lit, .unscanned]) :
    l.work letter dimOn f cls raw = l.takeClass letter dimOn f cls raw := by
  unfold Lamp.work
  obtain none | ⟨dark, other⟩ | ⟨lit, other⟩ := plain
  · rw [none]
  · rw [dark]
    cases cls with
    | darkOk => simp at other
    | unexpected => simp at other
    | unscanned => simp at other
    | _ => rfl
  · rw [lit]
    cases cls with
    | lit => simp at other
    | unscanned => simp at other
    | _ => rfl

/-! ## The work of one aspect -/

theorem netFor_eq (cls : ReadingClass) (raw : Nat) (l : Lamp) :
    l.netFor cls raw = if cls = .lit ∨ cls = .darkOk then raw - l.leak else 0 := by
  cases cls <;> rfl

theorem redLossHolds_eq (letter : Letter) (l : Lamp) :
    (letter == .R && l.redLossHolds) = (letter == .R && decide (0 < l.fitted) && l.proven == 0) := by
  rw [Lamp.redLossHolds, Bool.and_assoc]

theorem conflictSeen_iff {s : State} {c : CoreId} {cls : ReadingClass} {l : Lamp} :
    s.conflictSeen c cls l = true ↔ letterOf c = .G ∧ cls = .unexpected ∧ s.lamps.filter ≤ l.unexpectedRun ∧
      ((s.lamps.toldMode = .run ∨ s.lamps.toldMode = .held) ∧ (∃ i : GroupId, s.conflict i (groupOf c) = true ∧
        (s.engine.groups[i].state = .green ∨ s.engine.groups[i].state = .clearance)) ∨ s.lamps.toldMode = .flash) := by
  unfold State.conflictSeen
  cases s.lamps.toldMode <;> simp [allGroups, and_assoc]

/-- The unit's work on an aspect in the terms of its lamp, its class and its reading (R113). -/
theorem aspectWork_eq {s : State} {c : CoreId} {l : Lamp} {cls : ReadingClass} {r : Reading} {p : LampPass}
    (l_eq : l = s.lamps.lamps[c]) (cls_eq : cls = s.lamps.classify c)
    (reading : s.lamps.scan[c].reading.getD { raw := 0, senseOpen := false } = r)
    (p_eq : p = l.work (letterOf c) s.seenDim s.lamps.filter cls r.raw) :
    s.aspectWork c =
      { lamp := Lamp.setLast cls r (l.netFor cls r.raw)
          { p.lamp with redLossDeclared := letterOf c == .R && p.lamp.redLossHolds }
        actions :=
          (if cls = .unscanned then unscannedActions c else scannedActions c s.lamps.filter cls p) ++
          redLossActions c p.lamp ++
          (if s.conflictSeen c cls p.lamp then [.raise .conflictObserved (.group (groupOf c))] else [])
        redChange := letterOf c == .R && (letterOf c == .R && p.lamp.redLossHolds) != l.redLossDeclared
        declared :=
          if letterOf c = .R then (letterOf c == .R && p.lamp.redLossHolds) && !l.redLossDeclared
          else cls != .unscanned && decide (0 < l.proven) && p.lamp.proven == 0
        conflict := s.conflictSeen c cls p.lamp
        result := { cls := cls, raw := r.raw, net := l.netFor cls r.raw, proven := p.lamp.proven } } := by
  subst l_eq cls_eq reading p_eq
  rfl

theorem setLast_eq (cls : ReadingClass) (r : Reading) (net : Nat) (l : Lamp) :
    l.setLast cls r net =
      { l with
        lastClass := cls
        lastRaw := if cls = .unscanned then l.lastRaw else r.raw
        lastSenseOpen := if cls = .unscanned then l.lastSenseOpen else r.senseOpen
        lastNet := if cls = .unscanned then l.lastNet else net } := by
  unfold Lamp.setLast
  split <;> rfl

/-- The raises and clears of a scanned aspect in order (R115, R118, R122, R124). -/
theorem scannedActions_eq (c : CoreId) (f : Nat) (cls : ReadingClass) (p : LampPass) :
    scannedActions c f cls p =
      (if p.doubtful = true ∧ 8 ≤ p.lamp.doubtfulRun then [FaultAction.raise .lampUncertain (.aspect c)] else []) ++
      (if f ≤ p.lamp.overloadRun then [FaultAction.raise .lampOverload (.aspect c)] else []) ++
      (if f ≤ p.lamp.quietRun then [FaultAction.clear .lampOverload (.aspect c)] else []) ++
      (if p.certain then [FaultAction.clear .lampUncertain (.aspect c)] else []) ++
      [if 1 ≤ p.lamp.proven ∧ p.lamp.proven < p.lamp.fitted then FaultAction.raise .lampPartial (.aspect c)
       else FaultAction.clear .lampPartial (.aspect c)] ++
      (if letterOf c = .R then []
       else [if p.lamp.proven = 0 then FaultAction.raise .lampOut (.aspect c) else FaultAction.clear .lampOut (.aspect c)]) ++
      (if cls = .unexpected ∧ f ≤ p.lamp.unexpectedRun then [FaultAction.raise .unexpectedCurrent (.aspect c)] else []) ++
      (if cls = .darkOk then [FaultAction.clear .unexpectedCurrent (.aspect c)] else []) := by
  unfold scannedActions raiseOrClear
  simp only [Bool.and_eq_true, decide_eq_true_eq, beq_iff_eq]
  cases cls <;> simp

/-- The raise or clear of RED_LOST (R123). -/
theorem redLossActions_eq (c : CoreId) (l : Lamp) :
    redLossActions c l =
      if (letterOf c == .R && l.redLossHolds) = true then [.raise .redLost (.group (groupOf c))]
      else if letterOf c = .R ∧ l.redLossDeclared = true then [.clear .redLost (.group (groupOf c))] else [] := by
  unfold redLossActions
  by_cases r : letterOf c = .R
  · rw [if_pos r, beq_iff_eq.mpr r, Bool.true_and]
    simp only [r, true_and]
  · rw [if_neg r, beq_eq_false_iff_ne.mpr r, Bool.false_and, if_neg Bool.false_ne_true, if_neg fun both => r both.1]

/-! ## The dim line as the unit has seen it -/

/-- What is found in a list with a first member that answers. -/
theorem findSome_first {α β : Type} {f : α → Option β} {older newer : List α} {x : α} {b : β}
    (before : ∀ a ∈ older, f a = none) (answers : f x = some b) : (older ++ x :: newer).findSome? f = some b := by
  rw [List.findSome?_append, List.findSome?_eq_none_iff.mpr before, List.findSome?_cons, answers]
  rfl

theorem seenDim_eq (s : State) :
    ((∀ b, Instr.dimChange b ∉ s.outbox) → s.seenDim = s.engine.dimOn) ∧
    (∀ (older newer : List Instr) (b : Bool), s.outbox = older ++ .dimChange b :: newer →
      (∀ b', Instr.dimChange b' ∉ older) → s.seenDim = !b) := by
  unfold State.seenDim
  refine ⟨fun absent => ?_, fun older newer b outbox absent => ?_⟩
  · rw [List.findSome?_eq_none_iff.mpr fun m mem => ?_]
    split
    · next on => exact absurd mem (absent on)
    · rfl
  · rw [outbox, findSome_first (x := Instr.dimChange b) (b := b) (fun m mem => ?_) rfl]
    split
    · next on => exact absurd mem (absent on)
    · rfl

/-- Settles O45: the class; the LIT reading doubtful and counted; every class with its runs; the frames of a LEARN; all that
the work of an aspect gives; the dim line it goes by. -/
theorem readingsJudged : Obligations.ReadingsJudged := by
  refine ⟨fun u c out => classify_unscanned out, fun u c r reading => classify_reading reading,
    fun l dimOn f raw i net k i_eq positive net_eq k_eq => ⟨?_, fun above => ?_, fun within far => ?_,
      fun within near run proven learnt least run_eq proven_eq least_eq learnt_eq => ?_⟩,
    fun l m letter dimOn f raw run cls p q p_eq m_eq run_eq q_eq => ⟨fun lit => ?_, fun saturated => ?_,
      fun lit saturated => ?_⟩,
    fun l letter dimOn f raw learnt cls p q p_eq q_eq learnt_eq => ⟨fun learn lit => ?_, fun learn dark => ?_,
      fun learn unscanned => ?_, fun plain => ?_⟩,
    fun s c l cls r p f net lost seen l_eq cls_eq reading f_eq p_eq net_eq lost_eq seen_iff => ?_, fun s => seenDim_eq s⟩
  · rw [k_eq]
    exact estimate_spec positive
  · rw [takeLit_doubtful i_eq net_eq k_eq (.inl above), decide_eq_true above]
    exact ⟨rfl, rfl, rfl, rfl⟩
  · rw [takeLit_doubtful i_eq net_eq k_eq (.inr far), decide_eq_false (Nat.not_lt.mpr within)]
    exact ⟨rfl, rfl, rfl, rfl⟩
  · rw [takeLit_counted i_eq net_eq k_eq within near run_eq proven_eq least_eq learnt_eq]
    exact ⟨rfl, rfl, rfl, rfl⟩
  · subst lit
    rw [← moveUnexpected_eq] at m_eq
    obtain ⟨overload, quiet⟩ := takeLit_runs m dimOn f raw
    rw [p_eq, takeClass_lit letter dimOn f raw m_eq, moveOverload_lit, ← q_eq]
    rw [← q_eq, m_eq, moveUnexpected_eq] at overload quiet
    rw [overload, quiet]
  · subst saturated
    rw [← moveUnexpected_eq] at m_eq
    rw [p_eq, takeClass_saturated letter dimOn f raw m_eq, m_eq, moveUnexpected_eq]
  · rw [← moveUnexpected_eq] at m_eq
    have same : m.candidate = l.candidate ∧ m.candidateRun = l.candidateRun ∧ m.proven = l.proven := by
      rw [m_eq, moveUnexpected_eq]
      exact ⟨rfl, rfl, rfl⟩
    obtain ⟨candidate, candidate_run, proven⟩ := same
    rw [p_eq, takeClass_other letter dimOn f raw lit saturated m_eq, count_eq 0 f m (run := run) ?_, proven]
    rw [run_eq, candidate, candidate_run]
    exact if_congr eq_comm rfl rfl
  · subst lit
    rw [p_eq, work_learnLit letter dimOn f raw learn, learnLit_eq learnt_eq]
  · rw [p_eq, q_eq, work_learnDark letter dimOn f raw learn dark]
    rfl
  · subst unscanned
    rw [p_eq, work_learnDropped letter dimOn f raw learn]
  · rw [p_eq, q_eq, work_plain letter dimOn f raw plain]
  · subst f_eq
    have read : s.lamps.scan[c].reading.getD { raw := 0, senseOpen := false } = r := by
      obtain some | ⟨none, -, zero⟩ := reading
      · rw [some, Option.getD_some]
      · rw [none, Option.getD_none, zero]
    have lost_is : (letterOf c == .R && p.lamp.redLossHolds) = lost := by rw [redLossHolds_eq, lost_eq]
    have seen_is : s.conflictSeen c cls p.lamp = seen := by
      rw [Bool.eq_iff_iff, seen_iff, conflictSeen_iff]
    rw [aspectWork_eq l_eq cls_eq read p_eq, netFor_eq, ← net_eq, lost_is, seen_is, scannedActions_eq, redLossActions_eq,
      lost_is, setLast_eq]
    refine ⟨rfl, rfl, rfl, ?_, ?_, rfl⟩
    · simp
    · dsimp only
      split <;> simp [and_assoc]

end Sys2Proof.Machine
end

section
/-! What a zero-cross edge does: a slot's start and end, and the frame completed (R97 to R101, R103, R104, R107, R108). -/

namespace Sys2Proof.Machine

/-! ## The lamp's type stays -/

theorem takeLit_type (dimOn : Bool) (f raw : Nat) (l : Lamp) : (l.takeLit dimOn f raw).lamp.type = l.type := by
  have counted : ∀ k, (Lamp.count k f { l with doubtfulRun := 0 }).type = l.type := fun k => by
    rw [count_eq k f _ rfl]
  unfold Lamp.takeLit
  dsimp only
  split
  · rfl
  · dsimp only
    split
    · rw [Lamp.learnStep, setActive_eq]
      exact counted _
    · exact counted _

theorem moveOverload_type (cls : ReadingClass) (evidence : Bool) (l : Lamp) : (l.moveOverload cls evidence).type = l.type := by
  unfold Lamp.moveOverload
  split
  · rfl
  · split <;> rfl

theorem takeClass_type (letter : Letter) (dimOn : Bool) (f : Nat) (cls : ReadingClass) (raw : Nat) (l : Lamp) :
    (l.takeClass letter dimOn f cls raw).lamp.type = l.type := by
  by_cases lit : cls = .lit
  · subst lit
    rw [takeClass_lit letter dimOn f raw rfl]
    exact (moveOverload_type _ _ _).trans (takeLit_type _ _ _ _)
  · by_cases saturated : cls = .saturated
    · subst saturated
      rw [takeClass_saturated letter dimOn f raw rfl]
      rfl
    · rw [takeClass_other letter dimOn f raw lit saturated rfl, count_eq 0 f _ rfl, moveUnexpected_eq]
      dsimp only
      split <;> rfl

theorem work_type (letter : Letter) (dimOn : Bool) (f : Nat) (cls : ReadingClass) (raw : Nat) (l : Lamp) :
    (l.work letter dimOn f cls raw).lamp.type = l.type := by
  unfold Lamp.work
  split
  · rw [Lamp.learnLit, setActive_eq]
  · exact takeClass_type _ _ _ _ _ _
  · exact takeClass_type _ _ _ _ _ _
  · rfl
  · rfl
  · exact takeClass_type _ _ _ _ _ _

theorem aspectWork_type (s : State) (c : CoreId) : (s.aspectWork c).lamp.type = s.lamps.lamps[c].type := by
  rw [aspectWork_eq rfl rfl rfl rfl, setLast_eq]
  exact work_type _ _ _ _ _ _

theorem aspectWork_class (s : State) (c : CoreId) :
    (s.aspectWork c).lamp.lastClass = s.lamps.classify c ∧ (s.aspectWork c).result.cls = s.lamps.classify c := by
  rw [aspectWork_eq rfl rfl rfl rfl, setLast_eq]
  exact ⟨rfl, rfl⟩

/-! ## Raises and clears -/

theorem actAll_append (s : State) (a b : List FaultAction) : (s.actAll a).actAll b = s.actAll (a ++ b) :=
  (List.foldl_append ..).symm

/-- Raises and clears go by the table and the time alone (R157, R158). -/
theorem actAll_faults_congr {s t : State} (actions : List FaultAction) (faults : s.faults = t.faults)
    (now : s.uptimeMs = t.uptimeMs) : (s.actAll actions).faults = (t.actAll actions).faults := by
  induction actions generalizing s t with
  | nil => exact faults
  | cons a rest ih =>
    refine ih ?_ ?_
    · cases a with
      | raise k x => rw [State.act, State.act, State.raise_faults, State.raise_faults, faults, State.nowSec, State.nowSec, now]
      | clear k x => rw [State.act, State.act, State.clear_faults, State.clear_faults, faults]
    · cases a <;> exact now

/-! ## A frame completed -/

/-- The unit's records as the snapshot of a completed frame finds them (R107, R108). -/
def State.framed (works : Vector LampOutcome 64) (t : State) : State :=
  { t with lamps := { t.lamps.afterFrame works with frameSequence := t.lamps.frameSequence + 1#16 } }

/-- The raises and clears of a completed frame in their order (R107). -/
def State.frameActions (works : Vector LampOutcome 64) (t : State) : List FaultAction :=
  works.toList.flatMap (fun w => w.actions) ++ conflictClears t.lamps.toldMode ++ allGroups.map (senseAction works)

/-- A frame completed, in its parts (R107). -/
theorem completeFrame_eq {t : State} {works : Vector LampOutcome 64} (works_eq : works = Vector.ofFn t.aspectWork) :
    t.completeFrame =
      { t with
        lamps := { (t.framed works).lamps with snapshot := (t.framed works).snapshotNow }
        faults := (t.actAll (t.frameActions works)).faults
        outbox := t.outbox ++ frameMessages works } := by
  have lamps : ∀ (s : State) actions, (s.actAll actions).lamps = s.lamps := fun s actions => by rw [actAll_only]
  have acted : (t.onLamps (LampUnit.afterFrame works)).actAll (t.frameActions works) =
      { t with lamps := t.lamps.afterFrame works, faults := (t.actAll (t.frameActions works)).faults } := by
    rw [actAll_only, actAll_faults_congr (s := t.onLamps (LampUnit.afterFrame works)) (t := t) _ rfl rfl]
    rfl
  unfold State.completeFrame
  dsimp only
  rw [← works_eq, lamps, actAll_append, actAll_append, ← List.append_assoc]
  have actions : (works.toList.flatMap fun w => w.actions) ++
      conflictClears (t.onLamps (LampUnit.afterFrame works)).lamps.toldMode ++ allGroups.map (senseAction works) =
        t.frameActions works := rfl
  rw [actions, acted]
  rfl

/-! ## The level as the unit has seen it -/

/-- The level that a message on its way brings for an aspect, none for any other message (R99; log 26). -/
def levelNews (c : CoreId) (m : Instr) : Option Bool :=
  match m with
  | .aspectLevelChange d lit => if d = c then some lit else none
  | _ => none

theorem levelNews_eq_none {c : CoreId} {m : Instr} (other : ∀ b, m ≠ .aspectLevelChange c b) : levelNews c m = none := by
  unfold levelNews
  split
  · next d lit => exact if_neg fun same => other lit (by rw [same])
  · rfl

theorem levelNews_self (c : CoreId) (b : Bool) : levelNews c (.aspectLevelChange c b) = some b := if_pos rfl

theorem seenLevel_without_news {s : State} {c : CoreId} (none : s.outbox.findSome? (levelNews c) = Option.none) :
    s.seenLevel c = s.engine.aspects[c].lit := by
  unfold State.seenLevel
  split
  · next lit found => exact absurd (none.symm.trans found) nofun
  · rfl

theorem seenLevel_with_news {s : State} {c : CoreId} {b : Bool}
    (some : s.outbox.findSome? (levelNews c) = Option.some b) : s.seenLevel c = !b := by
  unfold State.seenLevel
  split
  · next lit found => rw [Option.some.inj (some.symm.trans found)]
  · next none => exact absurd (some.symm.trans none) nofun

/-- The level seen goes by the news in the outbox and the output alone (log 26). -/
theorem seenLevel_congr {s t : State} {c : CoreId}
    (news : s.outbox.findSome? (levelNews c) = t.outbox.findSome? (levelNews c))
    (engine : s.engine.aspects = t.engine.aspects) : s.seenLevel c = t.seenLevel c := by
  cases found : t.outbox.findSome? (levelNews c) with
  | none => rw [seenLevel_without_news (news.trans found), seenLevel_without_news found, engine]
  | some b => rw [seenLevel_with_news (news.trans found), seenLevel_with_news found]

theorem seenLevel_eq (s : State) (c : CoreId) :
    ((∀ b, Instr.aspectLevelChange c b ∉ s.outbox) → s.seenLevel c = s.engine.aspects[c].lit) ∧
    (∀ (older newer : List Instr) (b : Bool), s.outbox = older ++ .aspectLevelChange c b :: newer →
      (∀ b', Instr.aspectLevelChange c b' ∉ older) → s.seenLevel c = !b) := by
  have silent : ∀ {l : List Instr}, (∀ b, Instr.aspectLevelChange c b ∉ l) → ∀ m ∈ l, levelNews c m = none :=
    fun absent m mem => levelNews_eq_none fun b same => absent b (same ▸ mem)
  refine ⟨fun absent => ?_, fun older newer b outbox absent => ?_⟩
  · exact seenLevel_without_news (List.findSome?_eq_none_iff.mpr (silent absent))
  · refine seenLevel_with_news ?_
    rw [outbox, findSome_first (silent absent) (levelNews_self c b)]

theorem frameMessages_silent (works : Vector LampOutcome 64) (c : CoreId) :
    (frameMessages works).findSome? (levelNews c) = none := by
  refine List.findSome?_eq_none_iff.mpr fun m mem => ?_
  simp only [frameMessages, List.mem_append, List.mem_map, List.mem_singleton] at mem
  obtain ((⟨d, -, rfl⟩ | ⟨d, -, rfl⟩) | rfl) | ⟨d, -, rfl⟩ := mem
  · rfl
  · rfl
  · rfl
  · split <;> rfl

/-! ## Slots -/

theorem startSlot_scan (slot : Nat) (s : State) (c : CoreId) :
    (s.startSlot slot).lamps.scan[c] =
      if letterOf c = rowOf slot then s.lamps.scan[c].latch (s.seenLevel c) s.lamps.lamps[c].type else s.lamps.scan[c] :=
  Vector.getElem_ofFn c.isLt

/-- Within a frame the slot's end stores the readings of its row (R98). -/
theorem endSlot_scan {rd : Vector Reading 16} {u : LampUnit} (running : u.slotIndex ≠ 0) (c : CoreId) :
    (u.endSlot rd).scan[c] =
      if letterOf c = u.rowSelect then
        { u.scan[c] with
          reading := some { rd[groupOf c] with raw := min 4095 rd[groupOf c].raw }
          changed := u.scan[c].changed || u.scan[c].moved }
      else u.scan[c] := by
  rw [LampUnit.endSlot, if_neg running]
  exact Vector.getElem_ofFn c.isLt

theorem endSlot_idle {rd : Vector Reading 16} {u : LampUnit} (idle : u.slotIndex = 0) : u.endSlot rd = u := if_pos idle

theorem exec_zeroCross {s : State} (ready : s.loading = false) (rd : Vector Reading 16) :
    exec (.zeroCross rd) s = .next (s.zeroCrossEdge rd) := next_event ready

theorem edgeCounts_iff {s : State} :
    s.edgeCounts = true ↔ s.lamps.scanState = .suspended ∨ 6 ≤ elapsed s.nowMs s.lamps.lastZeroCross := by
  simp [State.edgeCounts]

theorem zeroCrossEdge_ignored {s : State} (rd : Vector Reading 16) (scanning : s.lamps.scanState = .scanning)
    (early : elapsed s.nowMs s.lamps.lastZeroCross < 6) : s.zeroCrossEdge rd = s := by
  refine if_pos ?_
  rw [Bool.not_eq_true', Bool.eq_false_iff, Ne, edgeCounts_iff, scanning]
  rintro (suspended | late)
  · cases suspended
  · omega

/-- A counted edge while scanning (R98). -/
theorem zeroCrossEdge_scanning {s : State} (rd : Vector Reading 16) (scanning : s.lamps.scanState = .scanning)
    (counts : 6 ≤ elapsed s.nowMs s.lamps.lastZeroCross) :
    s.zeroCrossEdge rd = State.startSlot (nextSlot s.lamps.scanMode s.lamps.slotIndex)
      (if s.lamps.slotIndex = slotsOf s.lamps.scanMode then
        (State.completeFrame { s with lamps := LampUnit.endSlot rd { s.lamps with lastZeroCross := s.nowMs } }).onLamps
          LampUnit.emptyFrame
      else { s with lamps := LampUnit.endSlot rd { s.lamps with lastZeroCross := s.nowMs } }) := by
  unfold State.zeroCrossEdge
  rw [if_neg (by rw [edgeCounts_iff.mpr (.inr counts)]; nofun), scanning]
  rfl

/-- The first edge after a suspension (R100). -/
theorem zeroCrossEdge_suspended {s : State} (rd : Vector Reading 16) (suspended : s.lamps.scanState = .suspended) :
    s.zeroCrossEdge rd =
      State.startSlot 1 { s with lamps := { s.lamps with lastZeroCross := s.nowMs, scanState := .scanning } } := by
  unfold State.zeroCrossEdge
  rw [if_neg (by rw [edgeCounts_iff.mpr (.inl suspended)]; nofun), suspended]
  rfl

theorem slotsOf_cases (m : ScanMode) : slotsOf m = 3 ∨ slotsOf m = 4 := by
  cases m
  · exact .inl rfl
  · exact .inr rfl

/-- Slot 1 starts, after a suspension or a change of scan mode (R98, R100, R102). -/
theorem zeroCrossEdge_first {s : State} (rd : Vector Reading 16)
    (first : s.lamps.scanState = .suspended ∨ s.lamps.slotIndex = 0 ∧ 6 ≤ elapsed s.nowMs s.lamps.lastZeroCross) :
    s.zeroCrossEdge rd =
      State.startSlot 1 { s with lamps := { s.lamps with lastZeroCross := s.nowMs, scanState := .scanning } } := by
  cases state : s.lamps.scanState with
  | suspended => exact zeroCrossEdge_suspended rd state
  | scanning =>
    obtain suspended | ⟨idle, counts⟩ := first
    · rw [state] at suspended
      cases suspended
    · have several := slotsOf_cases s.lamps.scanMode
      rw [zeroCrossEdge_scanning rd state counts, if_neg (by omega), endSlot_idle (by exact idle), nextSlot,
        if_pos (.inl idle), ← state]

theorem rowOf_succ (slot : Nat) :
    rowOf (slot + 1) = if slot = 1 then .A else if slot = 2 then .G else if slot = 3 then .X else .R := by
  match slot with
  | 0 => rfl
  | 1 => rfl
  | 2 => rfl
  | 3 => rfl
  | n + 4 => rfl

/-! ## The edge that ends the last slot -/

theorem endSlot_timed (rd : Vector Reading 16) (u : LampUnit) (now : Clock) :
    LampUnit.endSlot rd { u with lastZeroCross := now } = { u.endSlot rd with lastZeroCross := now } := by
  unfold LampUnit.endSlot
  split <;> rfl

/-- The work of an aspect does not look at the time of the last zero-cross. -/
theorem aspectWork_timeless (s : State) (now : Clock) (c : CoreId) :
    State.aspectWork { s with lamps.lastZeroCross := now } c = s.aspectWork c := rfl

section
variable {works : CoreId → LampOutcome} {bank : Vector LampOutcome 64} (bank_eq : bank = Vector.ofFn works)
include bank_eq

theorem bank_getElem (c : CoreId) : bank[c] = works c := by
  rw [bank_eq, Fin.getElem_fin, Vector.getElem_ofFn]

theorem bank_actions :
    bank.toList.flatMap (fun w => w.actions) = allCores.flatMap fun c => (works c).actions := by
  rw [bank_eq, Vector.toList_ofFn, List.ofFn_eq_map, List.flatMap_map]
  rfl

theorem senseAction_eq (g : GroupId) :
    senseAction bank g =
      if (works (coreOf g .R)).result.cls = .senseFault ∨ (works (coreOf g .A)).result.cls = .senseFault ∨
         (works (coreOf g .G)).result.cls = .senseFault ∨ (works (coreOf g .X)).result.cls = .senseFault
      then FaultAction.raise .senseFault (.group g) else FaultAction.clear .senseFault (.group g) := by
  unfold senseAction raiseOrClear
  simp only [letters, List.any_cons, List.any_nil, Bool.or_false, Bool.or_eq_true, beq_iff_eq, bank_getElem bank_eq]

/-- The raises and clears of a frame in terms of each aspect's outcome (R107). -/
theorem frameActions_eq (t : State) :
    t.frameActions bank =
      allCores.flatMap (fun c : CoreId => (works c).actions) ++
        (if t.lamps.toldMode = .supplyOff then allGroups.map fun g : GroupId => FaultAction.clear .conflictObserved (.group g) else []) ++
        allGroups.map fun g : GroupId =>
          if (works (coreOf g .R)).result.cls = .senseFault ∨ (works (coreOf g .A)).result.cls = .senseFault ∨
             (works (coreOf g .G)).result.cls = .senseFault ∨ (works (coreOf g .X)).result.cls = .senseFault
          then FaultAction.raise .senseFault (.group g) else FaultAction.clear .senseFault (.group g) := by
  rw [State.frameActions, bank_actions bank_eq, funext (senseAction_eq bank_eq), conflictClears]

/-- The messages of a frame in terms of each aspect's outcome (R107). -/
theorem frameMessages_eq :
    frameMessages bank =
      (allCores.filter fun c : CoreId => (works c).redChange).map (fun c : CoreId => Instr.redLossChange (groupOf c)) ++
      (allCores.filter fun c : CoreId => (works c).conflict).map (fun c : CoreId => Instr.conflictObservedDeclaration (groupOf c)) ++
      [Instr.lampFrameResult (Vector.ofFn fun c : CoreId => (works c).result)] ++
      (allCores.filter fun c : CoreId => (works c).declared).map (fun c : CoreId =>
        if letterOf c = .R then Instr.redLostDeclaration c else Instr.lampOutDeclaration c) := by
  simp only [frameMessages, mapBank, bank_getElem bank_eq]

/-- An aspect's scan record once its frame is complete and emptied (R103, R104, R107). -/
theorem afterFrame_scan (u : LampUnit) (c : CoreId) :
    (u.afterFrame bank).emptyFrame.scan[c] =
      { u.scan[c] with
        settle := settleAfter u.dimChanged ((works c).result.cls != .unscanned) u.scan[c].settle
        latched := if (works c).result.cls != .unscanned then u.scan[c].latched else .none
        reading := none
        changed := false } := by
  have scan : (u.afterFrame bank).scan = Vector.ofFn fun c : CoreId =>
      { u.scan[c] with
        settle := settleAfter u.dimChanged (bank[c].result.cls != .unscanned) u.scan[c].settle
        latched := if bank[c].result.cls != .unscanned then u.scan[c].latched else .none } := rfl
  rw [LampUnit.emptyFrame]
  dsimp only
  rw [mapBank_getElem, scan, Fin.getElem_fin, Vector.getElem_ofFn]
  dsimp only
  rw [← bank_getElem bank_eq c]

theorem afterFrame_lamps (u : LampUnit) (c : CoreId) : (u.afterFrame bank).lamps[c] = (works c).lamp := by
  rw [LampUnit.afterFrame]
  dsimp only
  rw [mapBank_getElem, bank_getElem bank_eq c]

end

/-- A group's part of the snapshot of a completed frame (R108). -/
theorem snapshotNow_group (t : State) (g : GroupId) :
    t.snapshotNow.groups[g].state = t.engine.groups[g].state ∧
      t.snapshotNow.groups[g].redLost = t.lamps.lamps[coreOf g .R].redLossDeclared ∧
      (t.snapshotNow.groups[g].unexpected = true ↔
        ∃ l : Letter, t.lamps.filter ≤ t.lamps.lamps[coreOf g l].unexpectedRun) ∧
      t.snapshotNow.groups[g].inhibited = t.engine.groups[g].inhibited ∧
      t.snapshotNow.groups[g].withheld = t.engine.groups[g].withheld ∧
      ∀ l : Letter, (t.snapshotNow.groups[g].proven[(letterIndex l).val]'(letterIndex l).isLt) =
        t.lamps.lamps[coreOf g l].proven := by
  have group : t.snapshotNow.groups[g] =
      { state := t.engine.groups[g].state
        proven := #v[t.lamps.lamps[coreOf g .R].proven, t.lamps.lamps[coreOf g .A].proven,
                     t.lamps.lamps[coreOf g .G].proven, t.lamps.lamps[coreOf g .X].proven]
        redLost := t.lamps.lamps[coreOf g .R].redLossDeclared
        unexpected := t.lamps.unexpectedGroup g
        inhibited := t.engine.groups[g].inhibited
        withheld := t.engine.groups[g].withheld } := Vector.getElem_ofFn g.isLt
  have some_letter : t.lamps.unexpectedGroup g = true ↔
      ∃ l : Letter, t.lamps.filter ≤ t.lamps.lamps[coreOf g l].unexpectedRun := by
    have listed : ∀ l : Letter, l ∈ letters := fun l => by cases l <;> decide
    simp only [LampUnit.unexpectedGroup, List.any_eq_true, decide_eq_true_eq, listed, true_and]
  rw [group]
  exact ⟨rfl, rfl, some_letter, rfl, rfl, fun l => by cases l <;> rfl⟩

/-- A latch at a slot's start (R99, R103). -/
theorem latch_eq {a : ScanAspect} {lit : Bool} {type : LampType} {level : Latch}
    (level_eq : level = if lit then .lit else .dark) :
    a.latch lit type =
      { a with
        settle := if a.moved = true ∨ a.latched ≠ level then (if type = .filament then 2 else 1) else a.settle
        moved := false
        latched := level } := by
  have some_level : level ≠ .none := by
    rw [level_eq]
    cases lit <;> decide
  have restarts : (a.moved || a.latched == .none || a.latched != level) = true ↔ a.moved = true ∨ a.latched ≠ level := by
    rw [Bool.or_eq_true, Bool.or_eq_true, beq_iff_eq, bne_iff_ne]
    constructor
    · rintro ((moved | none) | other)
      · exact .inl moved
      · exact .inr fun same => some_level (same.symm.trans none)
      · exact .inr other
    · rintro (moved | other)
      · exact .inl (.inl moved)
      · exact .inr other
  have settle : settling type = if type = .filament then 2 else 1 := by cases type <;> rfl
  unfold ScanAspect.latch
  dsimp only
  rw [← level_eq, ← settle]
  congr 1
  exact if_congr restarts rfl rfl

/-- A slot started within a frame (R98, R99). -/
theorem zeroCrossEdge_within {s : State} {rd : Vector Reading 16} (scanning : s.lamps.scanState = .scanning)
    (counts : 6 ≤ elapsed s.nowMs s.lamps.lastZeroCross) (running : 1 ≤ s.lamps.slotIndex)
    (more : s.lamps.slotIndex < slotsOf s.lamps.scanMode) :
    s.zeroCrossEdge rd = State.startSlot (s.lamps.slotIndex + 1)
      { s with lamps := { s.lamps.endSlot rd with lastZeroCross := s.nowMs } } := by
  rw [zeroCrossEdge_scanning rd scanning counts, if_neg (Nat.ne_of_lt more), nextSlot, if_neg (by omega), endSlot_timed]

/-- The edge that ends the last slot (R98, R107). -/
theorem zeroCrossEdge_last {s x t : State} {rd : Vector Reading 16} {bank : Vector LampOutcome 64}
    (scanning : s.lamps.scanState = .scanning) (counts : 6 ≤ elapsed s.nowMs s.lamps.lastZeroCross)
    (last : s.lamps.slotIndex = slotsOf s.lamps.scanMode) (x_eq : x = { s with lamps := s.lamps.endSlot rd })
    (t_eq : t = { x with lamps.lastZeroCross := s.nowMs }) (bank_eq : bank = Vector.ofFn x.aspectWork) :
    s.zeroCrossEdge rd = State.startSlot 1
      { t with
        lamps := LampUnit.emptyFrame { (t.framed bank).lamps with snapshot := (t.framed bank).snapshotNow }
        faults := (t.actAll (t.frameActions bank)).faults
        outbox := t.outbox ++ frameMessages bank } := by
  have timeless : bank = Vector.ofFn t.aspectWork := by
    rw [bank_eq, t_eq, funext fun c => aspectWork_timeless x s.nowMs c]
  have ended : ({ s with lamps := LampUnit.endSlot rd { s.lamps with lastZeroCross := s.nowMs } } : State) = t := by
    rw [t_eq, x_eq, endSlot_timed]
  rw [zeroCrossEdge_scanning rd scanning counts, if_pos last, nextSlot, if_pos (.inr (Nat.le_of_eq last.symm)), ended,
    completeFrame_eq timeless]
  rfl

/-- The state once a frame is complete and slot 1 has started (R98, R107). -/
def State.frameDone (bank : Vector LampOutcome 64) (t : State) : State :=
  State.startSlot 1
    { t with
      lamps := LampUnit.emptyFrame { (t.framed bank).lamps with snapshot := (t.framed bank).snapshotNow }
      faults := (t.actAll (t.frameActions bank)).faults
      outbox := t.outbox ++ frameMessages bank }

theorem frameDone_only (bank : Vector LampOutcome 64) (t : State) :
    (t.frameDone bank).lamps =
        { t.lamps with
          slotIndex := 1
          rowSelect := .R
          frameSequence := t.lamps.frameSequence + 1
          dimChanged := false
          scan := (t.frameDone bank).lamps.scan
          lamps := (t.frameDone bank).lamps.lamps
          snapshot := (t.framed bank).snapshotNow } ∧
      t.frameDone bank =
        { t with
          lamps := (t.frameDone bank).lamps
          faults := (t.actAll (t.frameActions bank)).faults
          outbox := t.outbox ++ frameMessages bank } := ⟨rfl, rfl⟩

theorem frameDone_lamps {works : CoreId → LampOutcome} {bank : Vector LampOutcome 64} (bank_eq : bank = Vector.ofFn works)
    (t : State) (c : CoreId) : (t.frameDone bank).lamps.lamps[c] = (works c).lamp :=
  afterFrame_lamps bank_eq t.lamps c

theorem frameDone_scan {works : CoreId → LampOutcome} {bank : Vector LampOutcome 64} (bank_eq : bank = Vector.ofFn works)
    {t : State} {c : CoreId} {a : ScanAspect} (type : (works c).lamp.type = t.lamps.lamps[c].type)
    (a_eq : a =
      { t.lamps.scan[c] with
        settle := settleAfter t.lamps.dimChanged ((works c).result.cls != .unscanned) t.lamps.scan[c].settle
        latched := if (works c).result.cls != .unscanned then t.lamps.scan[c].latched else .none
        reading := none
        changed := false }) :
    (t.frameDone bank).lamps.scan[c] =
      if letterOf c = .R then a.latch (t.seenLevel c) t.lamps.lamps[c].type else a := by
  obtain ⟨v, v_eq⟩ : ∃ v : State, v =
      { t with
        lamps := LampUnit.emptyFrame { (t.framed bank).lamps with snapshot := (t.framed bank).snapshotNow }
        faults := (t.actAll (t.frameActions bank)).faults
        outbox := t.outbox ++ frameMessages bank } := ⟨_, rfl⟩
  have start : t.frameDone bank = v.startSlot 1 := by
    rw [v_eq]
    rfl
  have scan : v.lamps.scan[c] = a := by
    rw [v_eq]
    exact (afterFrame_scan bank_eq t.lamps c).trans a_eq.symm
  have lamp : v.lamps.lamps[c].type = t.lamps.lamps[c].type := by
    rw [v_eq, ← type, ← afterFrame_lamps bank_eq t.lamps c]
    rfl
  have seen : v.seenLevel c = t.seenLevel c := by
    refine seenLevel_congr ?_ (by rw [v_eq])
    rw [v_eq, List.findSome?_append, frameMessages_silent, Option.or_none]
  rw [start, startSlot_scan, scan, lamp, seen]
  rfl

/-- Settles O44: the edge ignored, the first slot, a slot within a frame, the frame completed; then the latch and the level
it goes by. -/
theorem zeroCrossTaken : Obligations.ZeroCrossTaken := by
  refine ⟨fun s x rd works ready x_eq works_eq => ?_, fun a lit type level level_eq => latch_eq level_eq,
    fun s c => seenLevel_eq s c⟩
  rw [exec_zeroCross ready]
  refine ⟨fun scanning early => ?_, fun first => ?_, fun scanning counts => ⟨fun running more => ?_, fun last => ?_⟩⟩
  · rw [zeroCrossEdge_ignored rd scanning early]
  · rw [zeroCrossEdge_first rd first]
    exact ⟨_, rfl, rfl, rfl, rfl, rfl, rfl, fun c => startSlot_scan 1 _ c, rfl⟩
  · have row : ∀ next : Letter, next = (if s.lamps.slotIndex = 1 then .A else if s.lamps.slotIndex = 2 then .G else .X) →
        rowOf (s.lamps.slotIndex + 1) = next := fun next next_eq => by
      have several := slotsOf_cases s.lamps.scanMode
      have few : s.lamps.slotIndex ≠ 1 → s.lamps.slotIndex ≠ 2 → s.lamps.slotIndex = 3 := by omega
      rw [next_eq, rowOf_succ]
      split
      · rfl
      · split
        · rfl
        · next one two => rw [if_pos (few one two)]
    have stored := endSlot_scan (rd := rd) (u := s.lamps) (Nat.ne_of_gt running)
    rw [zeroCrossEdge_within scanning counts running more]
    rw [endSlot_only] at stored ⊢
    generalize (s.lamps.endSlot rd).scan = scan at stored ⊢
    refine ⟨_, rfl, rfl, rfl, rfl, fun next next_eq => ⟨row next next_eq, fun c a a_eq => ?_⟩, rfl⟩
    rw [startSlot_scan, row next next_eq]
    dsimp only at stored ⊢
    rw [stored c, ← a_eq]
    rfl
  · have running : s.lamps.slotIndex ≠ 0 := by
      have several := slotsOf_cases s.lamps.scanMode
      omega
    have stored := endSlot_scan (rd := rd) (u := s.lamps) running
    obtain ⟨bank, bank_eq⟩ : ∃ bank, bank = Vector.ofFn works := ⟨_, rfl⟩
    have bank_is : bank = Vector.ofFn x.aspectWork := by rw [bank_eq, funext works_eq]
    rw [zeroCrossEdge_last scanning counts last x_eq rfl bank_is]
    refine ⟨fun c => by rw [x_eq]; exact stored c, ?_⟩
    obtain ⟨t, t_eq⟩ : ∃ t, t = ({ x with lamps.lastZeroCross := s.nowMs } : State) := ⟨_, rfl⟩
    have timed : t = { s with lamps := { s.lamps with scan := x.lamps.scan, lastZeroCross := s.nowMs } } := by
      rw [t_eq, x_eq, endSlot_only]
    have x_kept : ∀ c : CoreId, x.lamps.scan[c].settle = s.lamps.scan[c].settle ∧
        x.lamps.scan[c].latched = s.lamps.scan[c].latched ∧ x.lamps.scan[c].moved = s.lamps.scan[c].moved := fun c => by
      rw [x_eq]
      dsimp only
      rw [stored c]
      split <;> exact ⟨rfl, rfl, rfl⟩
    obtain ⟨u_lamps, u_only⟩ := frameDone_only bank t
    have lamps := frameDone_lamps bank_eq t
    have kept : t.lamps = { s.lamps with scan := x.lamps.scan, lastZeroCross := s.nowMs } ∧ t.engine = s.engine ∧
        t.outbox = s.outbox ∧ t.faults = s.faults ∧ t.uptimeMs = s.uptimeMs := by
      rw [timed]
      exact ⟨rfl, rfl, rfl, rfl, rfl⟩
    obtain ⟨t_lamps, engine, outbox, faults, uptime⟩ := kept
    have snapshot : (t.frameDone bank).lamps.snapshot = (t.framed bank).snapshotNow := rfl
    have framed : (t.framed bank).engine = s.engine ∧ (t.framed bank).lamps.lamps = (t.frameDone bank).lamps.lamps ∧
        (t.framed bank).lamps.filter = s.lamps.filter := ⟨engine, rfl,
          (by rw [t_lamps] : t.lamps.filter = s.lamps.filter)⟩
    obtain ⟨framed_engine, framed_lamps, filter⟩ := framed
    have seen : ∀ c, t.seenLevel c = s.seenLevel c := fun c => seenLevel_congr (by rw [timed]) (by rw [timed])
    have class_of := fun c => aspectWork_class x c
    rw [← t_eq]
    refine ⟨t.frameDone bank, rfl, rfl, rfl, ?_, ?_, rfl, fun c => ⟨lamps c, fun scanned a scanned_iff is isnt => ?_⟩, ?_, ?_,
      ?_, ?_, ?_, ?_, fun g => ?_, fun c => ?_, ?_, ?_⟩
    · exact (congrArg LampUnit.lastZeroCross u_lamps).trans (by rw [t_lamps])
    · exact (congrArg LampUnit.frameSequence u_lamps).trans (by rw [t_lamps])
    · obtain ⟨settle, latched, moved⟩ := x_kept c
      have type : (works c).lamp.type = t.lamps.lamps[c].type := by
        rw [works_eq c, aspectWork_type, x_eq, t_lamps, endSlot_only]
      have a_eq : a =
          { t.lamps.scan[c] with
            settle := settleAfter t.lamps.dimChanged ((works c).result.cls != .unscanned) t.lamps.scan[c].settle
            latched := if (works c).result.cls != .unscanned then t.lamps.scan[c].latched else .none
            reading := none
            changed := false } := by
        rw [works_eq c, (class_of c).2, t_lamps]
        dsimp only
        rw [settle, latched, moved]
        by_cases out : x.lamps.classify c = .unscanned
        · rw [isnt fun some => scanned_iff.mp some out, out]
          simp [settleAfter]
        · rw [is (scanned_iff.mpr out), bne_iff_ne.mpr out]
          simp [settleAfter]
      rw [frameDone_scan bank_eq type a_eq, seen, t_lamps]
    · rw [u_only]
      dsimp only
      rw [actAll_faults_congr _ faults uptime, frameActions_eq bank_eq, t_lamps]
    · rw [u_only]
      dsimp only
      rw [outbox, frameMessages_eq bank_eq, List.append_assoc, List.append_assoc, List.append_assoc, List.append_assoc,
        List.append_assoc]
    · rw [snapshot]
      exact congrArg (· + 1#16) (by rw [t_lamps] : t.lamps.frameSequence = s.lamps.frameSequence)
    · rw [snapshot, State.snapshotNow, framed_engine]
    · rw [snapshot, State.snapshotNow, framed_engine]
    · rw [snapshot]
      exact (by rw [t_lamps] : t.lamps.scanMode = s.lamps.scanMode)
    · have group := snapshotNow_group (t.framed bank) g
      rw [framed_engine, framed_lamps, filter, ← snapshot] at group
      exact group
    · rw [lamps c, works_eq c, (class_of c).1]
    · rw [t_lamps] at u_lamps
      exact u_lamps
    · have rest : t = { s with lamps := t.lamps } := by rw [timed]
      refine u_only.trans ?_
      rw [show (t.frameDone bank).faults = (t.actAll (t.frameActions bank)).faults from rfl,
        show (t.frameDone bank).outbox = t.outbox ++ frameMessages bank from rfl]
      generalize (t.frameDone bank).lamps = done
      generalize (t.actAll (t.frameActions bank)).faults = table
      generalize t.outbox ++ frameMessages bank = messages
      rw [rest]

end Sys2Proof.Machine
end

section
/-! A step: the command at the front, the oldest message, the first timer that has run out, else a millisecond (R3). -/

namespace Sys2Proof.Machine

/-- The event of the first timer of a list that has run out. -/
def firstDue (timers : List (Bool × Instr)) : Option Instr :=
  timers.findSome? fun x => if x.1 then some x.2 else none

theorem firstDue_append (a b : List (Bool × Instr)) : firstDue (a ++ b) = (firstDue a).or (firstDue b) :=
  List.findSome?_append

theorem firstDue_cons (c : Bool) (i : Instr) (rest : List (Bool × Instr)) :
    firstDue ((c, i) :: rest) = (if c then some i else none).or (firstDue rest) := by
  cases c <;> rfl

theorem firstDue_split {earlier later : List (Bool × Instr)} {i : Instr} (not_yet : ∀ x ∈ earlier, x.1 = false) :
    firstDue (earlier ++ (true, i) :: later) = some i :=
  findSome_first (fun x mem => by rw [not_yet x mem]; rfl) rfl

theorem firstDue_none {timers : List (Bool × Instr)} (none_due : ∀ x ∈ timers, x.1 = false) : firstDue timers = none :=
  List.findSome?_eq_none_iff.mpr fun x mem => by rw [none_due x mem]; rfl

theorem head_ite (c : Prop) [Decidable c] (i : Instr) : (if c then [i] else []).head? = if c then some i else none := by
  split <;> rfl

theorem ranFor_eq (s : State) (ms : Nat) (timer : Option Clock) : s.ranFor ms timer = timer.any (s.ran ms) := by
  cases timer <;> rfl

theorem firstDue_map {α : Type} (due : α → Bool) (event : α → Instr) (l : List α) :
    firstDue (l.map fun x => (due x, event x)) = (l.find? due).map event := by
  induction l with
  | nil => rfl
  | cons x rest ih =>
    rw [List.map_cons, firstDue_cons, ih, List.find?_cons]
    cases due x <;> rfl

/-- The first queue entry whose wait has run out (R142). -/
theorem waitedOut_due (s : State) :
    firstDue (s.cable.queue.map fun e => (!e.underTest && s.ran 120000 e.waitStart, .waitLimitExpiry e.core)) =
      s.waitedOut.map fun e => .waitLimitExpiry e.core :=
  firstDue_map (fun e : QueueEntry => !e.underTest && s.ran 120000 e.waitStart) (fun e => .waitLimitExpiry e.core) _

theorem awaitsGap_eq (r : PortRecord) :
    r.awaitsGap = (r.state == .receiving || r.state == .discarding || r.ignoring || r.shadow != []) := by
  have shadow : (!r.shadow.isEmpty) = (r.shadow != []) := by cases r.shadow <;> rfl
  unfold PortRecord.awaitsGap
  rw [shadow]
  cases r.ignoring <;> cases r.shadow != [] <;> cases r.state == .receiving <;> cases r.state == .discarding <;> rfl

/-- The end of the phase of the test in flight (R138). -/
theorem phaseEnds_due {s : State} {phase : List (Bool × Instr)} (free : s.cable.flight = none → phase = [])
    (flying : ∀ f, s.cable.flight = some f → phase =
      [(s.ran 200 f.phaseStart, if f.phase = .positive then .positivePhaseEnd (Config.testCurrent s.expiries)
                                else .testCompletion (Config.testCurrent s.expiries))]) :
    s.phaseEnds.head? = firstDue phase := by
  unfold State.phaseEnds
  split
  · next f is =>
    have event : f.phaseEnd (Config.testCurrent s.expiries) =
        if f.phase = .positive then .positivePhaseEnd (Config.testCurrent s.expiries)
        else .testCompletion (Config.testCurrent s.expiries) := by
      unfold Flight.phaseEnd
      cases f.phase <;> rfl
    rw [flying f is, event, head_ite, firstDue_cons]
    exact (Option.or_none).symm
  · next is =>
    rw [free is]
    rfl

theorem turning_due (i : PanelInput) (ran : Clock → Bool) :
    (i.timer.any ran && i.turning true) = (i.raw && !i.debounced && i.timer.any ran) ∧
      (i.timer.any ran && i.turning false) = (!i.raw && i.debounced && i.timer.any ran) := by
  unfold PanelInput.turning
  cases i.timer with
  | none => simp
  | some start => cases ran start <;> cases i.raw <;> cases i.debounced <;> simp_all

/-- Once the image is loaded, the first event due is that of the first timer that has run out (log 4). -/
theorem expired_due {s : State} {phase : List (Bool × Instr)} (ready : s.loading = false)
    (phase_due : s.phaseEnds.head? = firstDue phase) :
    s.expired.head? = firstDue (
      [(s.seq.sync.filter == .rising && s.seq.sync.timer.any (s.ran 20), .countedPulse),
       (s.engine.hand.raw && !s.engine.hand.debounced && s.engine.hand.timer.any (s.ran 50), .handOn),
       (!s.engine.hand.raw && s.engine.hand.debounced && s.engine.hand.timer.any (s.ran 50), .handOff),
       (s.engine.stepButton.raw && !s.engine.stepButton.debounced && s.engine.stepButton.timer.any (s.ran 50), .stepPress),
       (!s.engine.stepButton.raw && s.engine.stepButton.debounced && s.engine.stepButton.timer.any (s.ran 50),
        .stepTurningOff),
       (s.engine.contactorTimer.any (s.ran 500), .contactorTimerExpiry),
       (s.lamps.scanState == .scanning && s.ran 50 s.lamps.lastZeroCross, .scanSuspend)] ++ phase ++
      [(s.cable.intervalTimer && s.ran (1000 * s.cable.interval) s.cable.lastTestEnd, .intervalExpiry)] ++
      s.cable.queue.map (fun e => (!e.underTest && s.ran 120000 e.waitStart, .waitLimitExpiry e.core)) ++
      [(s.saving && decide (2500 ≤ s.store.timer), .storeSaveTimeout),
       ((s.ports.maintenance.state == .receiving || s.ports.maintenance.state == .discarding ||
          s.ports.maintenance.ignoring || s.ports.maintenance.shadow != []) && s.ran 100 s.ports.maintenance.lastByte,
        .maintenanceGapExpiry)]) := by
  unfold State.expired
  rw [if_neg (by rw [ready]; nofun)]
  have interval : s.cable.intervalRun s.nowMs = s.ran (1000 * s.cable.interval) s.cable.lastTestEnd := rfl
  have ended : firstDue [] = none := rfl
  simp only [List.head?_append, head_ite, ranFor_eq, (turning_due _ _).1, (turning_due _ _).2, phase_due,
    firstDue_append, firstDue_cons, waitedOut_due, awaitsGap_eq, Bool.and_eq_true, beq_iff_eq, interval, ended,
    Option.or_assoc, Option.or_none]
  cases s.waitedOut <;> rfl

theorem idle_message {s : State} {message : Instr} {later : List Instr} (waiting : s.outbox = message :: later) :
    s.idle = exec message s := by
  rw [State.idle, waiting]

theorem idle_due {s : State} {i : Instr} (still : s.outbox = []) (due : s.expired.head? = some i) :
    s.idle = exec i { s with expiries := s.expiries + 1 } := by
  obtain ⟨rest, expired⟩ := List.head?_eq_some_iff.mp due
  unfold State.idle
  rw [still]
  dsimp only
  rw [expired]

theorem idle_passes {s : State} (still : s.outbox = []) (none_due : s.expired.head? = none) : s.idle = s.millisecond := by
  unfold State.idle
  rw [still]
  dsimp only
  rw [List.head?_eq_none_iff.mp none_due]

theorem step_idle {s : State} (waiting : s.pending = []) : step s = s.idle := by
  rw [step, waiting]

theorem pass_idle {r : Store} {ms : Nat} (idle : r.state = .idle) : Store.pass ms r = r := by
  unfold Store.pass
  rw [idle]

theorem pass_loading {r : Store} {ms : Nat} (loading : r.state = .loading) :
    Store.pass ms r = { r with timer := r.timer + ms } := by
  unfold Store.pass
  rw [loading]

theorem pass_saving {r : Store} {ms : Nat} (saving : r.state = .saving) :
    Store.pass ms r =
      { r with timer := r.timer + ms, toWrite := r.toWrite.drop ms,
               memory := (r.toWrite.take ms).foldl StoreWrite.into r.memory } := by
  unfold Store.pass
  rw [saving]

/-- Until the load ends, only its 2.5 s are timed (R174). -/
theorem expired_loading {s : State} (loading : s.loading = true) :
    s.expired.head? = if 2500 ≤ s.store.timer then some .storeLoadTimeout else none := by
  unfold State.expired
  rw [if_pos loading, head_ite]

/-- Settles O1: the command at the front, the oldest message, the load's own time, and the timers in their order. -/
theorem stepTakesFrontCommand : Obligations.StepTakesFrontCommand := by
  refine ⟨fun i rest s => rfl, fun s message later none outbox => (step_idle none).trans (idle_message outbox),
    fun s none still loading => ?_,
    fun s run phase timers none still ready run_eq free flying timers_eq => ?_⟩
  · rw [step_idle none]
    by_cases run_out : 2500 ≤ s.store.timer
    · rw [if_pos run_out, idle_due still ((expired_loading loading).trans (if_pos run_out))]
    · rw [if_neg run_out, idle_passes still ((expired_loading loading).trans (if_neg run_out)), State.millisecond,
        if_pos loading, State.onStore, pass_loading (beq_iff_eq.mp loading)]
  · obtain rfl : run = s.ran := funext fun ms => funext fun start => run_eq ms start
    have due : s.expired.head? = firstDue timers := by
      rw [timers_eq]
      exact expired_due ready (phaseEnds_due free flying)
    rw [step_idle none]
    refine ⟨fun earlier later i split_at not_yet => ?_, fun none_due => ?_⟩
    · exact idle_due still (due.trans (by rw [split_at, firstDue_split not_yet]))
    · rw [idle_passes still (due.trans (firstDue_none none_due)), State.millisecond, if_neg (by rw [ready]; nofun)]
      rfl

end Sys2Proof.Machine
end

section
/-! The reads: each answers OK with the fields of its rule and changes nothing (R172). -/

namespace Sys2Proof.Machine

section
variable {code : Nat} {p : Port} {s : State} {body : State → State × Answer} {payload spelled : List Byte}

/-- A read that every block lets through is answered with its bytes, however they are spelled. -/
theorem read_answered (ready : s.loading = false) (right : permitted code p = true) (taken : body s = okWith payload s)
    (same : payload = spelled) :
    (Host.Outcome.next (serve code p s body) : Host.Outcome State Fault Refusal) = .next (s.ok p code spelled) := by
  rw [serve_okWith ready right taken, same]

theorem read_refused (ready : s.loading = false) (right : permitted code p = true) (refused : body s = refuse .range s) :
    (Host.Outcome.next (serve code p s body) : Host.Outcome State Fault Refusal) =
      .next (s.refusedWith p code .range) := by
  rw [serve_refused ready right refused]

end

/-! ## Lists of bytes -/

theorem flatMap_filter_eq_ite {α β : Type} (f : α → List β) (holds : α → Bool) (l : List α) :
    (l.filter holds).flatMap f = l.flatMap fun a => if holds a then f a else [] := by
  induction l with
  | nil => rfl
  | cons a l ih =>
    rw [List.filter_cons, List.flatMap_cons, ← ih]
    cases holds a <;> simp

/-- Rows of 16 bytes one after another, byte by byte. -/
theorem flatMap_rows (rows : List (Vector Byte 16)) :
    rows.flatMap (fun row => row.toList) =
      (List.range (16 * rows.length)).map fun j =>
        (rows.getD (j / 16) (Vector.replicate 16 0#8)).toList.getD (j % 16) 0#8 := by
  induction rows with
  | nil => rfl
  | cons row rows ih =>
    rw [List.flatMap_cons, ih, List.length_cons, Nat.mul_add, Nat.mul_one, Nat.add_comm, List.range_add, List.map_append,
      List.map_map]
    congr 1
    · refine List.ext_getElem (by simp) fun j low high => ?_
      have below : j < 16 := by simpa using low
      simp [Nat.div_eq_of_lt below, Nat.mod_eq_of_lt below, below]
    · refine List.map_congr_left fun j _ => ?_
      simp [Nat.add_comm 16 j]

/-- Four rows of a table of 16, from row 4k on. -/
theorem fourRows (table : Vector (Vector Byte 16) 16) (k : Fin 4) :
    ((table.toList.drop (4 * (k.val + 1 - 1))).take 4).flatMap (fun row => row.toList) =
      (List.range 64).map fun j =>
        (table.toList.getD (4 * k.val + j / 16) (Vector.replicate 16 0#8)).toList.getD (j % 16) 0#8 := by
  have four : ((table.toList.drop (4 * (k.val + 1 - 1))).take 4).length = 4 := by
    simp
    omega
  rw [flatMap_rows, four]
  refine List.map_congr_left fun j within => ?_
  have row : j / 16 < 4 := by
    have := List.mem_range.mp within
    omega
  congr 2
  rw [List.getD_eq_getElem?_getD, List.getD_eq_getElem?_getD, List.getElem?_take_of_lt row, List.getElem?_drop,
    Nat.add_sub_cancel]

theorem numberedFaults_eq (n : Nat) (records : List FaultRecord) :
    numberedFaults n records = (records.zipIdx n).flatMap fun x => faultBytes x.2 x.1 := by
  induction records generalizing n with
  | nil => rfl
  | cons r rest ih => rw [numberedFaults, ih, List.zipIdx_cons, List.flatMap_cons]

theorem eq_groupsWhere {set : GroupSet} {holds : GroupId → Bool} (spelled : ∀ g : GroupId, set[g] = holds g) :
    set = groupsWhere holds := by
  ext i inside
  exact (spelled ⟨i, inside⟩).trans (by rw [groupsWhere, Vector.getElem_ofFn])

/-! ## The reads of groups, modes and conflicts -/

section
variable {s : State} {p : Port} (ready : s.loading = false)
include ready

theorem readGroup_answered (g : GroupId) :
    exec (.readGroup p (g.val + 1)) s = .next (s.ok p 2
      (groupBytes s.engine.groups[g] ++ (letters.flatMap fun l => enum aspectCommands (s.command (coreOf g l))) ++
        clockBytes s)) :=
  read_answered ready (by cases p <;> decide) (by rw [reqReadGroup, groupNumber, numbered_val_add_one]) rfl

theorem readGroup_refused {n : Nat} (outside : n = 0 ∨ 16 < n) :
    exec (.readGroup p n) s = .next (s.refusedWith p 2 .range) :=
  read_refused ready (by cases p <;> decide) (by rw [reqReadGroup, groupNumber, numbered_of_outside outside])

theorem readMode_answered :
    exec (.readMode p) s = .next (s.ok p 11
      (enum modes s.engine.mode ++ enum startPhases s.engine.startPhase ++ u16 s.engine.phaseTime ++
       u16 s.engine.startFlash ++ u16 s.engine.allRed ++ enum holdCauses s.engine.hold.cause ++
       u32 s.engine.hold.entered ++ flag s.engine.hold.pending ++ enum holdCauses s.engine.hold.pendingCause ++
       enum budgetPorts s.engine.hold.budgetPort ++ u8 s.seq.budget ++ flag s.engine.interstage.inFlight ++
       flag (s.engine.slot != none) ++ flag s.engine.hand.debounced ++ flag s.engine.stepButton.debounced ++
       clockBytes s)) := by
  have waiting : s.engine.slot.isSome = (s.engine.slot != none) := by cases s.engine.slot <;> rfl
  refine read_answered ready (by cases p <;> decide) rfl ?_
  simp only [holdBytes, waiting, List.append_assoc]

theorem readConflicts_answered :
    exec (.readConflicts p) s = .next (s.ok p 14 (s.conflicts.matrix.toList.flatMap groupSetBytes ++ clockBytes s)) :=
  read_answered ready (by cases p <;> decide) rfl rfl

theorem readIntergreens_answered (k : Fin 4) :
    exec (.readIntergreens p (k.val + 1)) s = .next (s.ok p 15
      ((List.range 64).map (fun j =>
        (s.conflicts.intergreens.toList.getD (4 * k.val + j / 16) (Vector.replicate 16 0#8)).toList.getD (j % 16) 0#8) ++
       clockBytes s)) :=
  read_answered ready (by cases p <;> decide)
    (by rw [reqReadIntergreens, within_iff.mpr (by omega)]; rfl)
    (by rw [fourRows])

theorem readIntergreens_refused {n : Nat} (outside : n = 0 ∨ 4 < n) :
    exec (.readIntergreens p n) s = .next (s.refusedWith p 15 .range) :=
  read_refused ready (by cases p <;> decide) (by rw [reqReadIntergreens, within_eq_false (by omega)]; rfl)

end

/-- The start conditions of the entering groups in RED, in ascending order (R54). -/
theorem startTestBytes_eq (e : Engine) :
    startTestBytes e = (List.finRange 16).flatMap fun g : GroupId =>
      if e.interstage.entering[g] = true ∧ e.groups[g].state = .red then
        flag e.startTests[g].notInhibited ++ flag e.startTests[g].minRedRun ++ flag e.startTests[g].intergreensRun
      else [] := by
  rw [startTestBytes, flatMap_filter_eq_ite]
  simp only [Bool.and_eq_true, beq_iff_eq]
  rfl

end Sys2Proof.Machine
end

section
/-! Every read answered (R172), read by read in the order of their codes. -/

namespace Sys2Proof.Machine

/-- READ_SNAPSHOT is for every port but the plan port (R171). -/
theorem permitted_snapshot {p : Port} (right : p ≠ .plan) : permitted 29 p = true := by
  cases p with
  | plan => exact absurd rfl right
  | maintenance => decide
  | monitor => decide

/-- Flags one beside another, the first in bit 0 (R172). -/
theorem bitsToNat_two (a b : Bool) :
    bitsToNat [a, b] = (if a = true then 1 else 0) + (if b = true then 2 else 0) := by
  revert a b
  decide

theorem bitsToNat_four (a b c d : Bool) :
    bitsToNat [a, b, c, d] =
      (if a = true then 1 else 0) + (if b = true then 2 else 0) + (if c = true then 4 else 0) +
      (if d = true then 8 else 0) := by
  revert a b c d
  decide

/-- The stages of a plan from stage a on, one after another. -/
theorem planStages_bytes (r : Plan) (a b : Nat) :
    (planStages r a b).flatMap stageBytes = (List.range' a (b + 1 - a)).flatMap fun k => stageBytes (r.stage k) := by
  rw [planStages, List.flatMap_map]

/-- READ_PLAN of a plan that there is, by its part (R65). -/
theorem reqReadPlan_named (s : State) (l : PlanId) :
    reqReadPlan (l.val + 1) 1 s =
      okWith (u16 s.seq.plans[l].cycle ++ u16 s.seq.plans[l].offset ++ flag s.seq.plans[l].sync ++
        flag s.seq.plans[l].dim ++ u8 s.seq.plans[l].count ++ enum validities s.seq.plans[l].validity ++
        flag (s.seq.inForce == l) ++ flag (s.seq.pendingPlan == some l) ++
        (planStages s.seq.plans[l] 1 (min s.seq.plans[l].count 6)).flatMap stageBytes) s ∧
    reqReadPlan (l.val + 1) 2 s =
      okWith ((planStages s.seq.plans[l] 7 s.seq.plans[l].count).flatMap stageBytes) s := by
  rw [reqReadPlan, reqReadPlan, planNumber, numbered_val_add_one]
  exact ⟨if_pos rfl, (if_neg (by decide)).trans (if_pos rfl)⟩

/-- A group's four bytes of the snapshot record, the counts two a byte (R172). -/
theorem snapshotGroupBytes_eq :
    snapshotGroupBytes = fun g =>
      enum groupStates g.state ++ u8 (g.proven[0] % 16 + 16 * (g.proven[1] % 16)) ++
      u8 (g.proven[2] % 16 + 16 * (g.proven[3] % 16)) ++
      u8 ((if g.redLost then 1 else 0) + (if g.unexpected then 2 else 0) + (if g.inhibited then 4 else 0) +
        (if g.withheld then 8 else 0)) := by
  funext g
  rw [snapshotGroupBytes, nibbles, nibbles, bitsToNat_four]

section
variable {s : State} {p : Port} (ready : s.loading = false)
include ready

theorem readInterstage_answered {tag slot : List Byte} {inhibited withheld : GroupSet}
    (tag_eq : tag = tagOrAbsent .interstageTag s.engine.interstage.tag)
    (slot_eq : slot = s.engine.slot.elim (flag false) fun r => flag true ++ groupSetBytes r.set ++ tagBytes r.tag)
    (sets : ∀ g : GroupId, inhibited[g] = s.engine.groups[g].inhibited ∧ withheld[g] = s.engine.groups[g].withheld) :
    exec (.readInterstage p) s = .next (s.ok p 16
      (flag s.engine.interstage.inFlight ++ groupSetBytes s.engine.interstage.target ++
       groupSetBytes s.engine.interstage.leaving ++ groupSetBytes s.engine.interstage.entering ++
       u32 s.engine.interstage.begunAt ++ tag ++ slot ++ groupSetBytes inhibited ++ groupSetBytes withheld ++
       startTestBytes s.engine ++ clockBytes s)) := by
  refine read_answered ready (by cases p <;> decide) rfl ?_
  rw [eq_groupsWhere fun g => (sets g).1, eq_groupsWhere fun g => (sets g).2, tag_eq, slot_eq]
  cases s.engine.slot <;> rfl

theorem readPlan_answered (l : PlanId) :
    exec (.readPlan p (l.val + 1) 1) s = .next (s.ok p 18
      (u16 s.seq.plans[l].cycle ++ u16 s.seq.plans[l].offset ++ flag s.seq.plans[l].sync ++ flag s.seq.plans[l].dim ++
       u8 s.seq.plans[l].count ++ enum validities s.seq.plans[l].validity ++ flag (s.seq.inForce == l) ++
       flag (s.seq.pendingPlan == some l) ++
       (List.range' 1 (min s.seq.plans[l].count 6)).flatMap fun k => stageBytes (s.seq.plans[l].stage k))) ∧
    exec (.readPlan p (l.val + 1) 2) s = .next (s.ok p 18
      ((List.range' 7 (s.seq.plans[l].count - 6)).flatMap fun k => stageBytes (s.seq.plans[l].stage k))) := by
  obtain ⟨part_one, part_two⟩ := reqReadPlan_named s l
  refine ⟨read_answered ready (by cases p <;> decide) part_one ?_, read_answered ready (by cases p <;> decide) part_two ?_⟩
  · rw [planStages_bytes, Nat.add_sub_cancel]
  · rw [planStages_bytes, Nat.add_sub_add_right _ 1 6]

theorem readPlan_refused {n k : Nat} (outside : n = 0 ∨ 8 < n ∨ k = 0 ∨ 2 < k) :
    exec (.readPlan p n k) s = .next (s.refusedWith p 18 .range) := by
  refine read_refused ready (by cases p <;> decide) ?_
  rw [reqReadPlan]
  obtain none_named | named : n = 0 ∨ 8 < n ∨ ¬ (n = 0 ∨ 8 < n) := by omega
  · rw [planNumber, numbered_of_outside (.inl none_named)]
  · obtain past | inside := named
    · rw [planNumber, numbered_of_outside (.inr past)]
    · cases planNumber n with
      | none => rfl
      | some l =>
        dsimp only
        rw [if_neg (by omega), if_neg (by omega)]

theorem readSubst_answered :
    exec (.readSubst p) s = .next (s.ok p 25 ([s.seq.substs[0], s.seq.substs[1]].flatMap substBytes)) := by
  refine read_answered ready (by cases p <;> decide) rfl ?_
  have both : s.seq.substs.toList = [s.seq.substs[0], s.seq.substs[1]] := by
    refine List.ext_getElem (by simp) fun i low high => ?_
    rw [Vector.getElem_toList]
    match i, high with
    | 0, _ => rfl
    | 1, _ => rfl
  rw [both]

theorem readSequence_answered :
    exec (.readSequence p) s = .next (s.ok p 26
      (u8 (s.seq.inForce.val + 1) ++ planOrAbsent .pendingPlan s.seq.pendingPlan ++ enum seqStates s.seq.state ++
       u16 s.seq.cycleTimer ++ u8 s.seq.stageIndex ++ u16 s.seq.stageTimer ++ runningBytes s.seq.running ++
       groupSetBytes s.seq.latest.set ++ tagOrAbsent .latestTag s.seq.latest.tag ++ u16 s.seq.extensionEnd ++
       flag s.seq.deferred ++ stageSetBytes s.seq.demands ++ u8 s.seq.budget ++ enum budgetPorts s.seq.budgetPort ++
       correctionBytes s.seq.correction ++ clockBytes s)) :=
  read_answered ready (by cases p <;> decide) rfl rfl

theorem readSync_answered :
    exec (.readSync p) s = .next (s.ok p 27
      (syncBytes s.seq.sync ++ correctionBytes s.seq.correction ++ u16 s.seq.plan.offset ++ u16 s.seq.plan.cycle ++
       flag s.seq.plan.sync ++ u16 s.seq.cycleTimer ++ clockBytes s)) :=
  read_answered ready (by cases p <;> decide) rfl rfl

theorem readSnapshot_answered (right : p ≠ .plan) :
    exec (.readSnapshot p) s = .next (s.ok p 29 (snapshotBytes s.lamps.snapshot)) :=
  read_answered ready (permitted_snapshot right) rfl rfl

theorem readScan_answered (l : Letter) :
    exec (.readScan p (codeOf letters l)) s = .next (s.ok p 30
      (enum scanStates s.lamps.scanState ++ enum scanModes s.lamps.scanMode ++ u8 s.lamps.filter ++ u8 s.lamps.threshold ++
       u8 s.lamps.slotIndex ++ u16 s.lamps.frameSequence.toNat ++ flag s.lamps.dimChanged ++ u32 s.lamps.lastZeroCross ++
       (allGroups.flatMap fun g => scanAspectBytes s.lamps.scan[coreOf g l] s.lamps.lamps[coreOf g l]) ++
       clockBytes s)) :=
  read_answered ready (by cases p <;> decide) (by rw [reqReadScan, valueOf_codeOf (by cases l <;> decide)]) rfl

theorem readScan_refused {n : Nat} (past : 4 ≤ n) : exec (.readScan p n) s = .next (s.refusedWith p 30 .range) :=
  read_refused ready (by cases p <;> decide) (by rw [reqReadScan, valueOf_of_length_le past])

theorem readLamp_answered (c : CoreId) :
    exec (.readLamp p (c.val + 1)) s = .next (s.ok p 33
      (lampBytes s.lamps.lamps[c] ++ flag s.engine.dimOn ++ u8 s.lamps.filter ++ u16 s.lamps.frameSequence.toNat ++
       clockBytes s)) :=
  read_answered ready (by cases p <;> decide) (by rw [reqReadLamp, coreNumber, numbered_val_add_one]) rfl

theorem readLamp_refused {n : Nat} (outside : n = 0 ∨ 64 < n) :
    exec (.readLamp p n) s = .next (s.refusedWith p 33 .range) :=
  read_refused ready (by cases p <;> decide) (by rw [reqReadLamp, coreNumber, numbered_of_outside outside])

theorem readCable_answered (c : CoreId) :
    exec (.readCable p (c.val + 1)) s = .next (s.ok p 42
      (cableBytes s.cable.records[c] ++ u8 s.lamps.lamps[c].fitted ++ enum aspectCommands (s.command c))) :=
  read_answered ready (by cases p <;> decide) (by rw [reqReadCable, coreNumber, numbered_val_add_one]; rfl) rfl

theorem readCable_refused {n : Nat} (outside : n = 0 ∨ 64 < n) :
    exec (.readCable p n) s = .next (s.refusedWith p 42 .range) :=
  read_refused ready (by cases p <;> decide) (by rw [reqReadCable, coreNumber, numbered_of_outside outside])

theorem readTestUnit_answered {flight : List Byte} (flight_eq : flight = s.cable.flight.elim [] flightBytes) :
    exec (.readTestUnit p) s = .next (s.ok p 43
      (enum unitStates s.cable.unitState ++ flag s.cable.enabled ++ flag s.cable.cyclicRunning ++ flag s.cable.stopWaiting ++
       coreSetBytes s.cable.testSet ++ u8 s.cable.interval ++ u8 s.cable.pointer ++ u32 s.cable.lastTestEnd ++
       flag s.cable.intervalPassed ++ s.cable.queue.flatMap queueBytes ++ flight ++ clockBytes s)) := by
  refine read_answered ready (by cases p <;> decide) rfl ?_
  rw [flight_eq]
  cases s.cable.flight <;> rfl

theorem readQualifier_answered (k : QualId) :
    exec (.readQualifier p (k.val + 1)) s = .next (s.ok p 47 (qualifierBytes s.quals[k] ++ clockBytes s)) :=
  read_answered ready (by cases p <;> decide) (by rw [reqReadQualifier, qualifierNumber, numbered_val_add_one]) rfl

theorem readQualifier_refused {n : Nat} (outside : n = 0 ∨ 4 < n) :
    exec (.readQualifier p n) s = .next (s.refusedWith p 47 .range) :=
  read_refused ready (by cases p <;> decide) (by rw [reqReadQualifier, qualifierNumber, numbered_of_outside outside])

theorem readFaults_answered {n : Nat} (low : 1 ≤ n) (high : n ≤ 32) :
    exec (.readFaults p n) s = .next (s.ok p 50
      (u8 s.faults.records.length ++ u8 s.faults.overflow ++ flag s.faults.line ++
       (((s.faults.records.drop (n - 1)).take 6).zipIdx n).flatMap (fun x => faultBytes x.2 x.1) ++ clockBytes s)) :=
  read_answered ready (by cases p <;> decide) (by rw [reqReadFaults, within_iff.mpr ⟨low, high⟩]; rfl)
    (by rw [numberedFaults_eq])

theorem readFaults_refused {n : Nat} (outside : n = 0 ∨ 32 < n) :
    exec (.readFaults p n) s = .next (s.refusedWith p 50 .range) :=
  read_refused ready (by cases p <;> decide) (by rw [reqReadFaults, within_eq_false (by omega)]; rfl)

theorem readStore_answered :
    exec (.readStore p) s = .next (s.ok p 54
      (enum storeStates s.store.state ++ enum loadOutcomes s.store.lastLoad ++ enum saveOutcomes s.store.lastSave ++
       u32 s.store.lastSaveTime ++ u16 2103 ++ clockBytes s)) :=
  read_answered ready (by cases p <;> decide) rfl rfl

end

/-- Settles O60, read by read: the bytes are those of the rule, whatever record they are gathered from. -/
theorem readsAnswered : Obligations.ReadsAnswered := by
  intro s p n clock tag correction comparator ready clock_eq tag_eq correction_eq comparator_eq
  subst clock_eq tag_eq correction_eq comparator_eq
  refine ⟨?_, readGroup_refused ready, readMode_answered ready, readConflicts_answered ready,
    readIntergreens_answered ready, readIntergreens_refused ready, ?_, ?_, fun outside => readPlan_refused ready (by omega),
    readSubst_answered ready, ?_, ?_, ?_, ?_, readScan_refused ready, ?_,
    fun outside => ⟨readLamp_refused ready outside, readCable_refused ready outside⟩, ?_, ?_, readQualifier_refused ready, ?_,
    readFaults_refused ready, readStore_answered ready⟩
  · rintro g _ rfl
    rw [readGroup_answered ready g]
    simp only [groupBytes, letters, clockBytes, List.flatMap_cons, List.flatMap_nil, List.append_assoc, List.append_nil]
  · intro tag slot inhibited withheld tag_eq slot_eq sets
    rw [readInterstage_answered ready (tag := tag) (slot := slot)
      (by rw [tag_eq]; cases s.engine.interstage.tag <;> rfl) (by rw [slot_eq]; cases s.engine.slot <;> rfl) sets,
      startTestBytes_eq]
    rfl
  · rintro l _ _ rfl rfl
    obtain ⟨part_one, part_two⟩ := readPlan_answered (p := p) ready l
    exact ⟨part_one, part_two, fun outside => readPlan_refused ready (by omega)⟩
  · intro pendingPlan latest pendingPlan_eq latest_eq
    have pendingPlan_spelled : pendingPlan = planOrAbsent .pendingPlan s.seq.pendingPlan := by
      rw [pendingPlan_eq]
      cases s.seq.pendingPlan <;> rfl
    have latest_spelled : latest = tagOrAbsent .latestTag s.seq.latest.tag := by
      rw [latest_eq]
      cases s.seq.latest.tag <;> rfl
    rw [readSequence_answered ready, pendingPlan_spelled, latest_spelled]
    simp only [runningBytes, planByte, correctionBytes, clockBytes, List.append_assoc]
  · rintro pulse plan _ rfl pulse_eq plan_eq
    have plan_spelled : plan = planOrAbsent .lastPlan s.seq.sync.lastPlan := by
      rw [plan_eq]
      cases s.seq.sync.lastPlan <;> rfl
    rw [readSync_answered ready, plan_spelled, pulse_eq]
    rfl
  · rintro _ right rfl
    rw [readSnapshot_answered ready right]
    rw [snapshotBytes, snapshotGroupBytes_eq]
  · rintro l _ rfl
    exact readScan_answered ready l
  · rintro c _ _ rfl rfl
    exact ⟨readLamp_answered ready c, readCable_answered ready c⟩
  · rintro flight _ rfl flight_eq
    rw [readTestUnit_answered ready (flight := flight) (by rw [flight_eq]; cases s.cable.flight <;> rfl)]
    rfl
  · rintro k _ rfl
    exact readQualifier_answered ready k
  · intro low high
    refine (readFaults_answered ready low high).trans (congrArg Host.Outcome.next (congrArg (State.ok p 50 · s)
      (congrArg (· ++ clockBytes s) (congrArg (_ ++ ·) (List.flatMap_congr fun x _ => ?_)))))
    rw [faultBytes, bitsToNat_two]
    simp only [beq_iff_eq]
    cases x.1.subject <;> rfl

end Sys2Proof.Machine
end

section
/-! The bytes, selections and timers of a port, and the bytes of a response (R166 to R170). -/

namespace Sys2Proof.Machine

/-! ## Port records -/

theorem onPort_congr {s : State} {p : Port} {f g : PortRecord → PortRecord} (same : f (s.ports.at p) = g (s.ports.at p)) :
    s.onPort p f = s.onPort p g := by
  rw [State.onPort, State.onPort, State.onPorts, State.onPorts, same]

theorem onPort_at (s : State) (p : Port) (f : PortRecord → PortRecord) :
    (s.onPort p f).ports.at p = f (s.ports.at p) :=
  PerPort.at_put_self _ _ _

theorem put_put_port {α : Type} (v : PerPort α) (p : Port) (x y : α) : (v.put p x).put p y = v.put p y := by
  cases p <;> rfl

theorem onPort_onPort (s : State) (p : Port) (f g : PortRecord → PortRecord) :
    (s.onPort p f).onPort p g = s.onPort p fun r => g (f r) := by
  have same : ((s.onPort p f).onPort p g).ports = (s.onPort p fun r => g (f r)).ports := by
    change ((s.ports.put p _).put p (g ((s.onPort p f).ports.at p))) = s.ports.put p _
    rw [put_put_port, onPort_at]
  exact congrArg (fun v => { s with ports := v }) same

/-- The port record once a byte has come in, before the byte is looked at (R167, R170). -/
def PortRecord.clocked (p : Port) (now : Clock) (r : PortRecord) : PortRecord :=
  { (if p = .maintenance then r else r.shift) with lastByte := now }

section
variable (p : Port) (now : Clock) (r : PortRecord)

/-- A byte that comes in moves what is shifted out and the time of the last byte, and nothing else. -/
theorem clocked_keeps :
    (r.clocked p now).state = r.state ∧ (r.clocked p now).received = r.received ∧
    (r.clocked p now).response = r.response ∧ (r.clocked p now).overrun = r.overrun ∧
    (r.clocked p now).shadow = r.shadow ∧ (r.clocked p now).ignoring = r.ignoring := by
  unfold PortRecord.clocked PortRecord.shift
  split
  · exact ⟨rfl, rfl, rfl, rfl, rfl, rfl⟩
  · cases r.sending <;> exact ⟨rfl, rfl, rfl, rfl, rfl, rfl⟩

theorem clocked_state : (r.clocked p now).state = r.state := (clocked_keeps p now r).1
theorem clocked_received : (r.clocked p now).received = r.received := (clocked_keeps p now r).2.1
theorem clocked_overrun : (r.clocked p now).overrun = r.overrun := (clocked_keeps p now r).2.2.2.1
theorem clocked_shadow : (r.clocked p now).shadow = r.shadow := (clocked_keeps p now r).2.2.2.2.1
theorem clocked_ignoring : (r.clocked p now).ignoring = r.ignoring := (clocked_keeps p now r).2.2.2.2.2

end

/-! ## A byte that comes in -/

theorem takeByte_eq (s : State) (p : Port) (b : Byte) :
    s.takeByte p b =
      if (s.ports.at p).ignoring = true then s.onPort p (PortRecord.clocked p s.nowMs)
      else if (!(s.ports.at p).shadow.isEmpty) = true then
        (s.onPort p (PortRecord.clocked p s.nowMs)).onPort p (PortRecord.shadowByte b)
      else (s.onPort p (PortRecord.clocked p s.nowMs)).frameByte p b := by
  have shifted : (fun r : PortRecord => { (if isClocked p then r.shift else r) with lastByte := s.nowMs }) =
      PortRecord.clocked p s.nowMs := by
    funext r
    cases p <;> rfl
  rw [State.takeByte, shifted]
  rw [onPort_at, clocked_ignoring, clocked_shadow]

theorem takeByte_ignored {s : State} {p : Port} (b : Byte) (ignoring : (s.ports.at p).ignoring = true) :
    s.takeByte p b = s.onPort p (PortRecord.clocked p s.nowMs) := by
  rw [takeByte_eq, if_pos ignoring]

section
variable {s : State} {p : Port} (b : Byte) (heeding : (s.ports.at p).ignoring = false)
include heeding

theorem takeByte_shadow (gathering : (s.ports.at p).shadow ≠ []) :
    s.takeByte p b = s.onPort p fun r => (r.clocked p s.nowMs).shadowByte b := by
  rw [takeByte_eq, heeding, if_neg (by decide), if_pos (by simpa using gathering), onPort_onPort]

theorem takeByte_frame (fresh : (s.ports.at p).shadow = []) :
    s.takeByte p b = (s.onPort p (PortRecord.clocked p s.nowMs)).frameByte p b := by
  rw [takeByte_eq, heeding, if_neg (by decide), fresh, if_neg (by decide)]

end

section
variable {s : State} {p : Port} (b : Byte)

theorem frameByte_idle (idle : (s.ports.at p).state = .idle) :
    s.frameByte p b =
      if b = startByte then s.onPort p fun r => { r with state := .receiving, received := [b] } else s := by
  rw [State.frameByte]
  rw [idle]

theorem frameByte_receiving (receiving : (s.ports.at p).state = .receiving) :
    s.frameByte p b =
      if (expectsLength (s.ports.at p).received && decide (96 < b.toNat)) = true then s.onPort p PortRecord.discard
      else if expectsCheck (s.ports.at p).received = true then s.takeFrame p ((s.ports.at p).received ++ [b])
      else s.onPort p fun r => { r with received := r.received ++ [b] } := by
  rw [State.frameByte]
  rw [receiving]

theorem frameByte_discarding (discarding : (s.ports.at p).state = .discarding) : s.frameByte p b = s := by
  rw [State.frameByte]
  rw [discarding]

theorem frameByte_answering (answering : (s.ports.at p).state = .pending ∨ (s.ports.at p).state = .responding) :
    s.frameByte p b = if b = startByte then s.onPort p fun r => { r with shadow := [b] } else s := by
  rw [State.frameByte]
  obtain pending | responding := answering
  · rw [pending]
  · rw [responding]

end

/-! ## The frame events -/

theorem exec_incomingByte {s : State} (ready : s.loading = false) (p : Port) (b : Byte) :
    exec (.incomingByte p b) s = .next (s.takeByte p b) :=
  next_event ready

theorem exec_requestFrameComplete {s : State} (ready : s.loading = false) {p : Port} (b : Byte)
    (awaited : expectsCheck (s.ports.at p).partialFrame = true) :
    exec (.requestFrameComplete p b) s = .next (s.takeByte p b) :=
  (next_event ready).trans (congrArg Host.Outcome.next (if_pos awaited))

theorem exec_frameLengthOver96 {s : State} (ready : s.loading = false) {p : Port} {b : Byte}
    (awaited : expectsLength (s.ports.at p).partialFrame = true) (long : 96 < b.toNat) :
    exec (.frameLengthOver96 p b) s = .next (s.takeByte p b) :=
  (next_event ready).trans (congrArg Host.Outcome.next (if_pos (by rw [awaited, decide_eq_true long]; rfl)))

theorem partialFrame_received {r : PortRecord} (heeding : r.ignoring = false) (fresh : r.shadow = [])
    (receiving : r.state = .receiving) : r.partialFrame = r.received := by
  rw [PortRecord.partialFrame, heeding, fresh, if_neg (by decide), if_neg (by decide), if_pos receiving]

theorem partialFrame_shadow {r : PortRecord} (heeding : r.ignoring = false) (gathering : r.shadow ≠ []) :
    r.partialFrame = r.shadow := by
  rw [PortRecord.partialFrame, heeding, if_neg (by decide), if_pos (by simpa using gathering)]

/-- A frame that expects its check byte does not expect its length byte. -/
theorem not_expectsLength {frame : List Byte} (awaited : expectsCheck frame = true) : expectsLength frame = false := by
  rw [expectsCheck, Bool.and_eq_true_iff, decide_eq_true_iff] at awaited
  rw [expectsLength, beq_eq_false_iff_ne]
  omega

end Sys2Proof.Machine
end

section
/-! What the bytes and events of a port do to its record, part by part (R166 to R170). -/

namespace Sys2Proof.Machine

section
variable {s : State} {p : Port} {b : Byte}

/-! ## Bytes -/

/-- A byte at a port that gathers no frame to be dropped, by the state of the port (R167). -/
theorem byte_idle (ready : s.loading = false) (heeding : (s.ports.at p).ignoring = false)
    (fresh : (s.ports.at p).shadow = []) (idle : (s.ports.at p).state = .idle) :
    exec (.incomingByte p b) s = .next (s.onPort p fun r =>
      if b = 0xA5#8 then { r.clocked p s.nowMs with state := .receiving, received := [b] } else r.clocked p s.nowMs) := by
  have still_idle : ((s.onPort p (PortRecord.clocked p s.nowMs)).ports.at p).state = .idle := by
    rw [onPort_at, clocked_state, idle]
  rw [exec_incomingByte ready, takeByte_frame b heeding fresh, frameByte_idle b still_idle, onPort_onPort, startByte]
  by_cases start : b = 0xA5#8
  · simp only [if_pos start]
  · simp only [if_neg start]

theorem byte_kept (ready : s.loading = false) (heeding : (s.ports.at p).ignoring = false)
    (fresh : (s.ports.at p).shadow = []) (receiving : (s.ports.at p).state = .receiving)
    (short : (s.ports.at p).received.length = 2 → b.toNat ≤ 96) (more : expectsCheck (s.ports.at p).received = false) :
    exec (.incomingByte p b) s = .next (s.onPort p fun r =>
      { r.clocked p s.nowMs with received := r.received ++ [b] }) := by
  have at_p := onPort_at s p (PortRecord.clocked p s.nowMs)
  have not_long : ¬ (expectsLength (s.ports.at p).received && decide (96 < b.toNat)) = true := by
    rw [Bool.and_eq_true_iff, expectsLength, beq_iff_eq, decide_eq_true_iff]
    rintro ⟨third, long⟩
    exact absurd (short third) (by omega)
  rw [exec_incomingByte ready, takeByte_frame b heeding fresh,
    frameByte_receiving b (by rw [at_p, clocked_state, receiving]), at_p, clocked_received, if_neg not_long, more,
    if_neg (by decide), onPort_onPort]
  exact congrArg Host.Outcome.next (onPort_congr (by rw [clocked_received]))

/-- A length above 96 is answered BAD_LENGTH, once the frame has ended (R167). -/
theorem byte_long (heeding : (s.ports.at p).ignoring = false) (fresh : (s.ports.at p).shadow = [])
    (receiving : (s.ports.at p).state = .receiving) (third : (s.ports.at p).received.length = 2) (long : 96 < b.toNat) :
    s.takeByte p b = s.onPort p fun r =>
      { r.clocked p s.nowMs with
        state := .discarding
        received := []
        response := some { code := r.received.getD 1 0#8, status := .badLength, overrun := r.overrun, payload := [] }
        overrun := false
        sending := false
        shifted := 0 } := by
  have at_p := onPort_at s p (PortRecord.clocked p s.nowMs)
  have over_long : (expectsLength (s.ports.at p).received && decide (96 < b.toNat)) = true := by
    rw [expectsLength, third, decide_eq_true long]
    rfl
  rw [takeByte_frame b heeding fresh, frameByte_receiving b (by rw [at_p, clocked_state, receiving]), at_p,
    clocked_received, if_pos over_long, onPort_onPort]
  refine onPort_congr ?_
  rw [PortRecord.discard, PortRecord.respond, clocked_received, clocked_overrun]
  rfl

theorem byte_answering (ready : s.loading = false) (heeding : (s.ports.at p).ignoring = false)
    (fresh : (s.ports.at p).shadow = [])
    (answering : (s.ports.at p).state = .pending ∨ (s.ports.at p).state = .responding) :
    exec (.incomingByte p b) s = .next (s.onPort p fun r =>
      if b = 0xA5#8 then { r.clocked p s.nowMs with shadow := [b] } else r.clocked p s.nowMs) := by
  have at_p := onPort_at s p (PortRecord.clocked p s.nowMs)
  rw [exec_incomingByte ready, takeByte_frame b heeding fresh,
    frameByte_answering b (by rw [at_p, clocked_state]; exact answering), onPort_onPort, startByte]
  by_cases start : b = 0xA5#8
  · simp only [if_pos start]
  · simp only [if_neg start]

theorem byte_discarding (ready : s.loading = false) (heeding : (s.ports.at p).ignoring = false)
    (fresh : (s.ports.at p).shadow = []) (discarding : (s.ports.at p).state = .discarding) :
    exec (.incomingByte p b) s = .next (s.onPort p (PortRecord.clocked p s.nowMs)) := by
  rw [exec_incomingByte ready, takeByte_frame b heeding fresh,
    frameByte_discarding b (by rw [onPort_at, clocked_state, discarding])]

/-! ## Bytes of a frame that is not kept -/

theorem shadowByte_last {r : PortRecord} (last : expectsCheck r.shadow = true) :
    r.shadowByte b = { r with overrun := true, shadow := [] } := by
  rw [PortRecord.shadowByte, not_expectsLength last, last]
  rfl

theorem shadowByte_long {r : PortRecord} (third : r.shadow.length = 2) (long : 96 < b.toNat) :
    r.shadowByte b = { r with overrun := true, shadow := [], ignoring := true } := by
  rw [PortRecord.shadowByte, expectsLength, third, decide_eq_true long]
  rfl

theorem shadowByte_more {r : PortRecord} (short : r.shadow.length = 2 → b.toNat ≤ 96)
    (more : expectsCheck r.shadow = false) : r.shadowByte b = { r with shadow := r.shadow ++ [b] } := by
  have not_long : ¬ (expectsLength r.shadow && decide (96 < b.toNat)) = true := by
    rw [Bool.and_eq_true_iff, expectsLength, beq_iff_eq, decide_eq_true_iff]
    rintro ⟨third, long⟩
    exact absurd (short third) (by omega)
  rw [PortRecord.shadowByte, if_neg not_long, more]
  rfl

/-! ## The bytes of a response -/

theorem clocked_silent {r : PortRecord} {now : Clock} (port : p ≠ .maintenance) (silent : r.sending = false) :
    r.clocked p now = { r with dataOut := 0#8, lastByte := now } := by
  rw [PortRecord.clocked, if_neg port, PortRecord.shift, silent]
  rfl

theorem clocked_sending {r : PortRecord} {now : Clock} {a : Response} (port : p ≠ .maintenance)
    (sending : r.sending = true) (waiting : r.response = some a) :
    r.clocked p now =
      { r with dataOut := a.bytes.getD r.shifted 0#8, shifted := r.shifted + 1, lastByte := now } := by
  rw [PortRecord.clocked, if_neg port, PortRecord.shift, sending, waiting]
  rfl

theorem byteSum_toNat (bytes : List Byte) : (byteSum bytes).toNat = (bytes.map BitVec.toNat).sum % 256 := by
  have from_byte : ∀ (l : List Byte) (x : Byte),
      (l.foldl (· + ·) x).toNat = (x.toNat + (l.map BitVec.toNat).sum) % 256 := by
    intro l
    induction l with
    | nil => exact fun x => (Nat.mod_eq_of_lt x.isLt).symm
    | cons y l ih =>
      intro x
      rw [List.foldl_cons, ih, BitVec.toNat_add, List.map_cons, List.sum_cons]
      omega
  exact (from_byte bytes 0#8).trans (by rw [show (0#8).toNat = 0 from rfl, Nat.zero_add])

/-- The check byte makes the sum of the bytes 0 modulo 256 (R172). -/
theorem byteSum_check (bytes : List Byte) :
    (bytes.map BitVec.toNat).sum + (0#8 - byteSum bytes).toNat ≡ 0 [MOD 256] := by
  have zero : (0#8).toNat = 0 := rfl
  rw [BitVec.toNat_sub, byteSum_toNat, zero, Nat.ModEq]
  omega

theorem sentWhole_iff {r : PortRecord} {a : Response} (sending : r.sending = true) (waiting : r.response = some a) :
    r.sentWhole = true ↔ r.state = .responding ∧ a.bytes.length ≤ r.shifted := by
  rw [PortRecord.sentWhole, sending, waiting, Bool.and_true, Bool.and_eq_true_iff, beq_iff_eq, decide_eq_true_iff]
  rfl

end

/-! ## Selections and gaps -/

theorem exec_selectionStart {s : State} (ready : s.loading = false) {p : Port} (port : p ≠ .maintenance) :
    exec (.selectionStart p) s = .next (s.onPort p PortRecord.select) := by
  rw [exec, execSelectionStart, isClocked_of_ne port, if_neg (by decide), ready, if_neg (by decide)]

theorem exec_selectRelease {s : State} (ready : s.loading = false) {p : Port} (port : p ≠ .maintenance) :
    exec (.selectRelease p) s = .next (s.onPort p PortRecord.release) := by
  rw [exec, execSelectRelease, isClocked_of_ne port, if_neg (by decide), ready, if_neg (by decide)]

theorem sentWhole_responding {r : PortRecord} (whole : r.sentWhole = true) : r.state = .responding := by
  rw [PortRecord.sentWhole, Bool.and_eq_true_iff, Bool.and_eq_true_iff, beq_iff_eq] at whole
  exact whole.1.1

/-- Settles O59: the bytes by what the port gathers, the response byte by byte, and the ends of a frame. -/
theorem portBytesTaken : Obligations.PortBytesTaken := by
  intro s p b r q ready r_eq q_eq
  obtain rfl : q = r.clocked p s.nowMs := q_eq
  have by_record : ∀ {i : Instr} {f : PortRecord → PortRecord} {x : PortRecord},
      exec i s = .next (s.onPort p f) → f r = x → exec i s = .next (s.onPort p fun _ => x) :=
    fun taken same => taken.trans (congrArg Host.Outcome.next (onPort_congr (by rw [← r_eq, same])))
  have by_byte : ∀ {i : Instr} {f : PortRecord → PortRecord} {x : PortRecord},
      exec i s = .next (s.takeByte p b) → s.takeByte p b = s.onPort p f → f r = x →
        exec i s = .next (s.onPort p fun _ => x) :=
    fun event taken same => by_record (event.trans (congrArg Host.Outcome.next taken)) same
  refine ⟨fun heeding fresh => ⟨fun idle => ?_, fun receiving third long i from_line => ?_,
      fun receiving short more => ?_, fun answering => ?_, fun discarding => ?_⟩,
    fun heeding gathering not_third last i from_line => ?_, fun heeding third long i from_line => ?_,
    fun heeding gathering short more => ?_, fun ignoring => ?_, clocked_silent, fun port sending a waiting status body
      status_eq body_eq => ?_, fun port => ⟨?_, ?_⟩, ?_, ?_⟩
  · rw [r_eq] at heeding fresh idle
    exact by_record (byte_idle ready heeding fresh idle) rfl
  · rw [r_eq] at heeding fresh receiving third
    have taken := byte_long heeding fresh receiving third long
    obtain rfl | rfl := from_line
    · exact by_byte (exec_incomingByte ready p b) taken rfl
    · refine by_byte (exec_frameLengthOver96 ready ?_ long) taken rfl
      rw [partialFrame_received heeding fresh receiving, expectsLength, third]
      rfl
  · rw [r_eq] at heeding fresh receiving short more
    exact by_record (byte_kept ready heeding fresh receiving short more) rfl
  · rw [r_eq] at heeding fresh answering
    exact by_record (byte_answering ready heeding fresh answering) rfl
  · rw [r_eq] at heeding fresh discarding
    exact by_record (byte_discarding ready heeding fresh discarding) rfl
  · have gathered : (r.clocked p s.nowMs).shadowByte b = _ := shadowByte_last (by rw [clocked_shadow, last])
    rw [r_eq] at heeding gathering last
    obtain rfl | rfl := from_line
    · exact by_byte (exec_incomingByte ready p b) (takeByte_shadow b heeding gathering) gathered
    · refine by_byte (exec_requestFrameComplete ready b ?_) (takeByte_shadow b heeding gathering) gathered
      rw [partialFrame_shadow heeding gathering, last]
  · have gathered : (r.clocked p s.nowMs).shadowByte b = _ := shadowByte_long (by rw [clocked_shadow, third]) long
    rw [r_eq] at heeding third
    have gathering : (s.ports.at p).shadow ≠ [] := by
      intro empty
      rw [empty] at third
      exact absurd third (by decide)
    obtain rfl | rfl := from_line
    · exact by_byte (exec_incomingByte ready p b) (takeByte_shadow b heeding gathering) gathered
    · refine by_byte (exec_frameLengthOver96 ready ?_ long) (takeByte_shadow b heeding gathering) gathered
      rw [partialFrame_shadow heeding gathering, expectsLength, third]
      rfl
  · have gathered : (r.clocked p s.nowMs).shadowByte b = { r.clocked p s.nowMs with shadow := r.shadow ++ [b] } := by
      rw [shadowByte_more (by rw [clocked_shadow]; exact short) (by rw [clocked_shadow, more]), clocked_shadow]
    rw [r_eq] at heeding gathering
    exact by_byte (exec_incomingByte ready p b) (takeByte_shadow b heeding gathering) gathered
  · rw [r_eq] at ignoring
    exact by_byte (exec_incomingByte ready p b) (takeByte_ignored b ignoring) rfl
  · have coded : codeOf statuses a.status = status := by
      rw [status_eq]
      cases a.status <;> rfl
    have spelled : a.bytes = [0x5A#8] ++ body ++ [0#8 - byteSum body] := by
      rw [body_eq, ← coded]
      rfl
    refine ⟨0#8 - byteSum body, byteSum_check body, ?_, ?_⟩
    · rw [clocked_sending port sending waiting, spelled]
    · rw [sentWhole_iff sending waiting, spelled, List.length_append, List.length_append, Nat.add_comm _ body.length]
      rfl
  · refine (exec_selectionStart ready port).trans (congrArg Host.Outcome.next (onPort_congr ?_))
    generalize s.ports.at p = x
    obtain ⟨state, _, _, _, _, _, _, _, _, _, _⟩ := x
    cases state <;> rfl
  · refine (exec_selectRelease ready port).trans (congrArg Host.Outcome.next (onPort_congr ?_))
    generalize s.ports.at p = x
    dsimp only [PortRecord.release]
    by_cases whole : x.sentWhole = true
    · rw [if_pos whole, if_pos whole]
      have responding : x.state = .responding := sentWhole_responding whole
      obtain ⟨state, _, _, _, _, _, _, _, _, _, _⟩ := x
      obtain rfl : state = .responding := responding
      rfl
    · rw [if_neg whole, if_neg whole]
      obtain ⟨state, _, _, _, _, _, _, _, _, _, _⟩ := x
      cases state <;> rfl
  · refine (next_event ready).trans (congrArg Host.Outcome.next (onPort_congr ?_))
    generalize s.ports.at .maintenance = x
    obtain ⟨state, _, _, _, _, _, _, _, _, _, _⟩ := x
    cases state <;> rfl
  · exact next_event ready

end Sys2Proof.Machine
end

section
/-! What a reader takes from a payload: how many bytes, and the value they spell (R172). -/

namespace Sys2Proof.Machine

/-- The number a byte of a payload holds. -/
def byteOf (bs : List Byte) (k : Nat) : Nat := (bs.getD k 0#8).toNat

/-- The number two bytes of a payload hold, least significant first. -/
def wordOf (bs : List Byte) (k : Nat) : Nat := byteOf bs k + 256 * byteOf bs (k + 1)

/-- A reader takes a fixed number of bytes, and reads the value they spell whenever they are there. -/
def Takes {α : Type} (r : Reader α) (size : Nat) (value : List Byte → α) : Prop :=
  ∀ bs : List Byte, r bs = if size ≤ bs.length then some (value bs, bs.drop size) else none

@[simp] theorem byteOf_drop (bs : List Byte) (n k : Nat) : byteOf (bs.drop n) k = byteOf bs (n + k) := by
  rw [byteOf, byteOf, List.getD_eq_getElem?_getD, List.getD_eq_getElem?_getD, List.getElem?_drop]

@[simp] theorem wordOf_drop (bs : List Byte) (n k : Nat) : wordOf (bs.drop n) k = wordOf bs (n + k) := by
  rw [wordOf, wordOf, byteOf_drop, byteOf_drop, Nat.add_assoc]

/-! ## The readers of numbers -/

theorem takes_rdU8 : Takes rdU8 1 fun bs => byteOf bs 0
  | [] => rfl
  | _ :: rest => (if_pos (Nat.le_add_left 1 rest.length)).symm

theorem takes_rdByte : Takes rdByte 1 fun bs => bs.getD 0 0#8
  | [] => rfl
  | _ :: rest => (if_pos (Nat.le_add_left 1 rest.length)).symm

theorem takes_rdU16 : Takes rdU16 2 fun bs => wordOf bs 0
  | [] => rfl
  | [_] => rfl
  | _ :: _ :: rest => (if_pos (Nat.le_add_left 2 rest.length)).symm

theorem takes_rdI16 : Takes rdI16 2 fun bs => (BitVec.ofNat 16 (wordOf bs 0)).toInt
  | [] => rfl
  | [_] => rfl
  | _ :: _ :: rest => (if_pos (Nat.le_add_left 2 rest.length)).symm

theorem takes_rdBits (n : Nat) : Takes (rdBits n) (n / 8) fun bs => Vector.ofFn fun k : Fin n => mapBit bs k.val := by
  intro bs
  by_cases short : bs.length < n / 8
  · rw [rdBits, if_pos short, if_neg (by omega)]
  · rw [rdBits, if_neg short, if_pos (by omega)]

/-! ## Readers one after another -/

section
variable {α β : Type} {r : Reader α} {n m : Nat} {v : List Byte → α}

theorem takes_some (x : α) : Takes (fun bs => some (x, bs)) 0 fun _ => x :=
  fun _ => (if_pos (Nat.zero_le _)).symm

/-- What is read after a reader, from the bytes it leaves. -/
theorem Takes.then_eq (h : Takes r n v) (k : α → Reader β) (bs : List Byte) :
    ((r bs).bind fun x => k x.1 x.2) = if n ≤ bs.length then k (v bs) (bs.drop n) else none := by
  rw [h bs]
  by_cases enough : n ≤ bs.length
  · rw [if_pos enough, if_pos enough]
    rfl
  · rw [if_neg enough, if_neg enough]
    rfl

theorem Takes.bind {k : α → Reader β} {w : α → List Byte → β} (h : Takes r n v) (later : ∀ x, Takes (k x) m (w x)) :
    Takes (fun bs => (r bs).bind fun x => k x.1 x.2) (n + m) fun bs => w (v bs) (bs.drop n) := by
  intro bs
  refine (h.then_eq k bs).trans ?_
  rw [later (v bs) (bs.drop n), List.length_drop, List.drop_drop]
  by_cases enough : n + m ≤ bs.length
  · rw [if_pos enough, if_pos (by omega), if_pos (by omega)]
  · by_cases first : n ≤ bs.length
    · rw [if_neg enough, if_pos first, if_neg (by omega)]
    · rw [if_neg enough, if_neg first]

theorem Takes.congr {m : Nat} {w : List Byte → α} (h : Takes r n v) (size : n = m) (same : ∀ bs, v bs = w bs) :
    Takes r m w := by
  obtain rfl : v = w := funext same
  exact size ▸ h

/-- A payload read as a whole has exactly the length that is taken. -/
theorem whole_eq {bs : List Byte} {x : α} (read : r bs = if n ≤ bs.length then some (x, bs.drop n) else none) :
    whole r bs = if bs.length = n then some x else none := by
  unfold whole
  rw [read]
  by_cases exactly : bs.length = n
  · rw [if_pos (by omega), if_pos exactly, List.drop_eq_nil_of_le (by omega)]
  · rw [if_neg exactly]
    by_cases enough : n ≤ bs.length
    · obtain ⟨b, rest, left⟩ := List.exists_cons_of_length_pos (l := bs.drop n) (by rw [List.length_drop]; omega)
      rw [if_pos enough, left]
    · rw [if_neg enough]

theorem takes_rdMany (h : Takes r n v) :
    ∀ m : Nat, Takes (rdMany r m) (n * m) fun bs => (List.range m).map fun j => v (bs.drop (n * j))
  | 0 => takes_some []
  | m + 1 =>
    ((h.bind fun x => (takes_rdMany h m).bind fun xs => takes_some (x :: xs)).congr (by rw [Nat.mul_succ]; omega)
      fun bs => by
        rw [List.range_succ_eq_map, List.map_cons, List.map_map]
        simp [Function.comp_def, Nat.mul_succ, Nat.add_comm] : Takes (rdMany r (m + 1)) _ _)

theorem takes_rdBank (h : Takes r n v) (m : Nat) :
    Takes (rdBank r m) (n * m) fun bs => Vector.ofFn fun j : Fin m => v (bs.drop (n * j.val)) := by
  intro bs
  have each : rdBank r m bs = (rdMany r m bs).bind fun x =>
      if h : x.1.toArray.size = m then some (⟨x.1.toArray, h⟩, x.2) else none := rfl
  rw [each, takes_rdMany h m bs]
  by_cases enough : n * m ≤ bs.length
  · rw [if_pos enough, if_pos enough, Option.bind_some, dif_pos (by simp)]
    refine congrArg (fun bank => some (bank, _)) (Vector.ext fun i inside => ?_)
    simp
  · rw [if_neg enough, if_neg enough]
    rfl

end

end Sys2Proof.Machine
end

section
/-! The arguments that each payload spells (R172), request by request. -/

namespace Sys2Proof.Machine

/-- The members of a bit map that begins at a byte of a payload. -/
def bitsFrom (bs : List Byte) (n k : Nat) : Vector Bool n :=
  Vector.ofFn fun j : Fin n => (bs.getD (k + j.val / 8) 0#8).getLsbD (j.val % 8)

/-- The signed number two bytes of a payload hold. -/
def intOf (bs : List Byte) (k : Nat) : Int := (BitVec.ofNat 16 (wordOf bs k)).toInt

/-- The arguments of the stage that begins at a byte of a payload (R63). -/
def stageFrom (bs : List Byte) (k : Nat) : StageArgs where
  set := bitsFrom bs 16 k
  endPoint := wordOf bs (k + 2)
  stageMin := wordOf bs (k + 4)
  stageMax := wordOf bs (k + 6)
  demandDependent := byteOf bs (k + 8)
  elastic := byteOf bs (k + 9)

@[simp] theorem bitsFrom_drop (bs : List Byte) (m n k : Nat) : bitsFrom (bs.drop m) n k = bitsFrom bs n (m + k) := by
  simp only [bitsFrom, List.getD_eq_getElem?_getD, List.getElem?_drop, Nat.add_assoc]

@[simp] theorem intOf_drop (bs : List Byte) (m k : Nat) : intOf (bs.drop m) k = intOf bs (m + k) := by
  rw [intOf, intOf, wordOf_drop]

@[simp] theorem stageFrom_drop (bs : List Byte) (m k : Nat) : stageFrom (bs.drop m) k = stageFrom bs (m + k) := by
  simp only [stageFrom, bitsFrom_drop, wordOf_drop, byteOf_drop, Nat.add_assoc]

theorem takes_bits (n : Nat) : Takes (rdBits n) (n / 8) fun bs => bitsFrom bs n 0 :=
  (takes_rdBits n).congr rfl fun bs => by simp only [bitsFrom, mapBit, Nat.zero_add]

theorem takes_none (i : Instr) : Takes (rdNone i) 0 fun _ => i := takes_some i

theorem takes_one (f : Nat → Instr) : Takes (rdOne f) 1 fun bs => f (byteOf bs 0) :=
  takes_rdU8.bind fun a => takes_some (f a)

theorem takes_two (f : Nat → Nat → Instr) : Takes (rdTwo f) 2 fun bs => f (byteOf bs 0) (byteOf bs 1) :=
  (takes_rdU8.bind fun a => takes_rdU8.bind fun b => takes_some (f a b)).congr rfl fun bs => by simp [-List.drop_one]

theorem takes_three (f : Nat → Nat → Nat → Instr) :
    Takes (rdThree f) 3 fun bs => f (byteOf bs 0) (byteOf bs 1) (byteOf bs 2) :=
  (takes_rdU8.bind fun a => takes_rdU8.bind fun b => takes_rdU8.bind fun c => takes_some (f a b c)).congr rfl
    fun bs => by simp [-List.drop_one]

theorem takes_startTimes : Takes rdStartTimes 4 fun bs => .writeStartTimes (wordOf bs 0) (wordOf bs 2) :=
  (takes_rdU16.bind fun a => takes_rdU16.bind fun b => takes_some (Instr.writeStartTimes a b)).congr rfl
    fun bs => by simp [-List.drop_one]

theorem takes_writeGroup :
    Takes rdWriteGroup 9 fun bs =>
      .writeGroup (byteOf bs 0) (byteOf bs 1) (wordOf bs 2) (byteOf bs 4) (byteOf bs 5) (wordOf bs 6) (byteOf bs 8) :=
  (takes_rdU8.bind fun g => takes_rdU8.bind fun t => takes_rdU16.bind fun mg => takes_rdU8.bind fun ra =>
    takes_rdU8.bind fun am => takes_rdU16.bind fun cl => takes_rdU8.bind fun mr =>
    takes_some (Instr.writeGroup g t mg ra am cl mr)).congr rfl fun bs => by simp [-List.drop_one]

theorem takes_stageArgs : Takes rdStageArgs 10 fun bs => stageFrom bs 0 :=
  ((takes_bits 16).bind fun g => takes_rdU16.bind fun e => takes_rdU16.bind fun lo => takes_rdU16.bind fun hi =>
    takes_rdU8.bind fun d => takes_rdU8.bind fun x =>
    takes_some
      ({ set := g, endPoint := e, stageMin := lo, stageMax := hi, demandDependent := d, elastic := x } : StageArgs)).congr
    rfl fun bs => by simp [stageFrom]

theorem takes_stages (m : Nat) :
    Takes (rdMany rdStageArgs m) (10 * m) fun bs => (List.range m).map fun j => stageFrom bs (10 * j) :=
  (takes_rdMany takes_stageArgs m).congr rfl fun bs => by simp only [stageFrom_drop, Nat.add_zero]

theorem takes_writeSubst :
    Takes rdWriteSubst 10 fun bs =>
      .writeSubst (byteOf bs 0) (byteOf bs 1) (byteOf bs 2) (bitsFrom bs 16 3) (wordOf bs 5) (wordOf bs 7) (byteOf bs 9) :=
  (takes_rdU8.bind fun e => takes_rdU8.bind fun p => takes_rdU8.bind fun k => (takes_bits 16).bind fun g =>
    takes_rdU16.bind fun lo => takes_rdU16.bind fun hi => takes_rdU8.bind fun d =>
    takes_some (Instr.writeSubst e p k g lo hi d)).congr rfl fun bs => by simp [-List.drop_one]

theorem takes_writeLamp :
    Takes rdWriteLamp 10 fun bs =>
      .writeLamp (byteOf bs 0) (byteOf bs 1) (byteOf bs 2) (wordOf bs 3) (wordOf bs 5) (byteOf bs 7) (byteOf bs 8)
        (byteOf bs 9) :=
  (takes_rdU8.bind fun a => takes_rdU8.bind fun n => takes_rdU8.bind fun t => takes_rdU16.bind fun b =>
    takes_rdU16.bind fun d => takes_rdU8.bind fun k => takes_rdU8.bind fun o => takes_rdU8.bind fun z =>
    takes_some (Instr.writeLamp a n t b d k o z)).congr rfl fun bs => by simp [-List.drop_one]

theorem takes_comparatorArgs :
    Takes rdComparatorArgs 3 fun bs => { limit := intOf bs 0, condition := byteOf bs 2 } :=
  (takes_rdI16.bind fun x => takes_rdU8.bind fun c =>
    takes_some ({ limit := x, condition := c } : ComparatorArgs)).congr rfl fun bs => by simp [intOf]

theorem takes_writeQualifier :
    Takes rdWriteQualifier 12 fun bs =>
      .writeQualifier (byteOf bs 0)
        { source := byteOf bs 1, subject := byteOf bs 2, a := { limit := intOf bs 3, condition := byteOf bs 5 },
          b := { limit := intOf bs 6, condition := byteOf bs 8 }, combine := byteOf bs 9, count := byteOf bs 10,
          action := byteOf bs 11 } :=
  (takes_rdU8.bind fun q => takes_rdU8.bind fun s => takes_rdU8.bind fun c => takes_comparatorArgs.bind fun a =>
    takes_comparatorArgs.bind fun b => takes_rdU8.bind fun r => takes_rdU8.bind fun n => takes_rdU8.bind fun x =>
    takes_some (Instr.writeQualifier q
      { source := s, subject := c, a := a, b := b, combine := r, count := n, action := x })).congr rfl
    fun bs => by simp [-List.drop_one]

theorem takes_writeConflicts :
    Takes rdWriteConflicts 32 fun bs => .writeConflicts (Vector.ofFn fun x : Fin 16 => bitsFrom bs 16 (2 * x.val)) :=
  ((takes_rdBank (takes_bits 16) 16).bind fun m => takes_some (Instr.writeConflicts m)).congr rfl fun bs => by simp [-List.drop_one]

theorem takes_writeIntergreens :
    Takes rdWriteIntergreens 65 fun bs =>
      .writeIntergreens (byteOf bs 0)
        (Vector.ofFn fun x : Fin 4 => Vector.ofFn fun y : Fin 16 => bs.getD (1 + 16 * x.val + y.val) 0#8) :=
  (takes_rdU8.bind fun p => (takes_rdBank (takes_rdBank takes_rdByte 16) 4).bind fun rows =>
    takes_some (Instr.writeIntergreens p rows)).congr rfl fun bs => by simp [-List.drop_one]

theorem takes_testSet : Takes rdTestSet 8 fun bs => .testSet (bitsFrom bs 64 0) :=
  (takes_bits 64).bind fun cores => takes_some (Instr.testSet cores)

end Sys2Proof.Machine
end

section
/-! A complete frame: its tests in their order, and the request it spells handed to its block (R167, R169, R171). -/

namespace Sys2Proof.Machine

/-! ## The request that a code reads -/

/-- What a reader reads is the request with a code, on this port or on the only port that may make it. -/
def Requests (p : Port) (code : Nat) (r : Reader Instr) : Prop :=
  ∀ bs j rest, r bs = some (j, rest) → ∃ q, requestOf j = some (q, code) ∧ (q = p ∨ rights code = some [q])

theorem Takes.requests {r : Reader Instr} {n code : Nat} {v : List Byte → Instr} {p q : Port} (h : Takes r n v)
    (asked : ∀ bs, requestOf (v bs) = some (q, code)) (port : q = p ∨ rights code = some [q]) : Requests p code r := by
  intro bs j rest read
  rw [h bs] at read
  by_cases enough : n ≤ bs.length
  · rw [if_pos enough] at read
    obtain ⟨rfl, -⟩ := Prod.mk.inj (Option.some.inj read)
    exact ⟨q, asked bs, port⟩
  · rw [if_neg enough] at read
    exact absurd read nofun

theorem rdStep_requests (p : Port) : Requests p 9 (rdStep p) := by
  intro bs j rest read
  cases bs with
  | nil =>
    obtain ⟨rfl, -⟩ := Prod.mk.inj (Option.some.inj read)
    exact ⟨p, rfl, .inl rfl⟩
  | cons b bs =>
    obtain ⟨rfl, -⟩ := Prod.mk.inj (Option.some.inj read)
    exact ⟨p, rfl, .inl rfl⟩

/-- Whatever WRITE_PLAN reads after its part number is an argument of WRITE_PLAN. -/
theorem writePlan_requests {p : Port} {bs rest : List Byte} {j : Instr} {r : Reader PlanPart}
    (read : ((r bs).bind fun x => some (Instr.writePlan x.1, x.2)) = some (j, rest)) :
    ∃ q, requestOf j = some (q, 17) ∧ (q = p ∨ rights 17 = some [q]) := by
  obtain ⟨x, -, taken⟩ := Option.bind_eq_some_iff.mp read
  obtain ⟨rfl, -⟩ := Prod.mk.inj (Option.some.inj taken)
  exact ⟨.plan, rfl, .inr (by decide)⟩

theorem rdWritePlan_requests (p : Port) (g : Option PlanStaging) : Requests p 17 (rdWritePlan g) := by
  intro bs j rest read
  cases bs with
  | nil => exact absurd read nofun
  | cons k bs =>
    change (if k.toNat = 1 then (rdPlanPartOne bs).bind fun x => some (Instr.writePlan x.1, x.2)
      else if k.toNat = 2 then (rdPlanPartTwo g bs).bind fun x => some (Instr.writePlan x.1, x.2)
      else some (Instr.writePlan (.other k.toNat), [])) = some (j, rest) at read
    by_cases one : k.toNat = 1
    · rw [if_pos one] at read
      exact writePlan_requests read
    · rw [if_neg one] at read
      by_cases two : k.toNat = 2
      · rw [if_pos two] at read
        exact writePlan_requests read
      · rw [if_neg two] at read
        obtain ⟨rfl, -⟩ := Prod.mk.inj (Option.some.inj read)
        exact ⟨.plan, rfl, .inr (by decide)⟩

theorem requestReader_requests {code : Nat} {p : Port} {g : Option PlanStaging} {r : Reader Instr}
    (named : requestReader code p g = some r) : Requests p code r := by
  unfold requestReader at named
  split at named <;> try obtain rfl := Option.some.inj named
  case h_7 | h_8 | h_11 | h_14 | h_16 | h_25 | h_26 | h_27 | h_29 | h_43 | h_51 | h_52 | h_54 =>
    exact (takes_none _).requests (fun _ => rfl) (.inl rfl)
  case h_3 | h_5 | h_6 | h_34 | h_35 | h_38 | h_39 | h_49 | h_53 =>
    exact (takes_none _).requests (fun _ => rfl) (.inr (by decide))
  case h_2 | h_10 | h_15 | h_30 | h_33 | h_42 | h_47 | h_50 => exact (takes_one _).requests (fun _ => rfl) (.inl rfl)
  case h_19 | h_20 | h_21 | h_23 | h_24 | h_32 | h_37 | h_40 | h_41 | h_45 | h_46 =>
    exact (takes_one _).requests (fun _ => rfl) (.inr (by decide))
  case h_18 | h_48 => exact (takes_two _).requests (fun _ => rfl) (.inl rfl)
  case h_1 => exact takes_writeGroup.requests (fun _ => rfl) (.inr (by decide))
  case h_4 => exact takes_startTimes.requests (fun _ => rfl) (.inr (by decide))
  case h_9 => exact rdStep_requests p
  case h_12 => exact takes_writeConflicts.requests (fun _ => rfl) (.inr (by decide))
  case h_13 => exact takes_writeIntergreens.requests (fun _ => rfl) (.inr (by decide))
  case h_17 => exact rdWritePlan_requests p g
  case h_22 => exact takes_writeSubst.requests (fun _ => rfl) (.inr (by decide))
  case h_28 => exact (takes_three _).requests (fun _ => rfl) (.inr (by decide))
  case h_31 => exact takes_writeLamp.requests (fun _ => rfl) (.inr (by decide))
  case h_36 => exact takes_testSet.requests (fun _ => rfl) (.inr (by decide))
  case h_44 => exact takes_writeQualifier.requests (fun _ => rfl) (.inr (by decide))
  case h_55 => exact absurd named nofun

/-- A request that a port may make is read as a request on that port (R171). -/
theorem requestOf_readRequest {code : Nat} {p : Port} {g : Option PlanStaging} {bs : List Byte} {j : Instr}
    (right : permitted code p = true) (read : readRequest code p g bs = some j) : requestOf j = some (p, code) := by
  unfold readRequest at read
  split at read
  next r named =>
    unfold whole at read
    split at read
    next x whole_read =>
      obtain rfl := Option.some.inj read
      obtain ⟨q, asked, rfl | only⟩ := requestReader_requests named _ _ _ whole_read
      · exact asked
      · rw [permitted, only] at right
        obtain rfl : p = q := by simpa using right
        exact asked
    next => exact absurd read nofun
  next => exact absurd read nofun

/-- A request is handed to the block that takes it as a command (R169). -/
theorem exec_eq_hand {i : Instr} {x : Port × Nat} (asked : requestOf i = some x) (s : State) :
    exec i s = .next (s.hand i) := by
  have request : (requestOf i).isSome = true := by rw [asked]; rfl
  obtain ⟨t, next, -⟩ := request_settled request s
  rw [hand_eq, if_pos request, next]
  rfl

/-! ## The tests of a frame -/

theorem rights_isNone_iff (code : Nat) : (rights code).isNone = true ↔ code = 0 ∨ 54 < code := by
  constructor
  · intro unknown
    by_contra known
    unfold rights at unknown
    split_ifs at unknown
    case neg => omega
    all_goals exact absurd unknown (by decide)
  · intro outside
    unfold rights
    have unlisted : ∀ l : List Nat, (∀ k ∈ l, 1 ≤ k ∧ k ≤ 54) → code ∉ l := fun l listed member => by
      have := listed code member
      omega
    rw [if_neg (unlisted _ (by decide)), if_neg (unlisted _ (by decide)), if_neg (unlisted _ (by decide)),
      if_neg (unlisted _ (by decide)), if_neg (unlisted _ (by decide)), if_neg (by omega)]
    rfl

theorem permitted_known {code : Nat} {p : Port} (right : permitted code p = true) : ¬ (rights code).isNone = true := by
  intro unknown
  rw [permitted, Option.isNone_iff_eq_none.mp unknown] at right
  exact absurd right nofun

section
variable {s : State} {p : Port} {frame : List Byte}

theorem takeFrame_badCheck (bad : byteSum (frame.drop 1) ≠ 0#8) :
    s.takeFrame p frame = s.refusedWith p (frame.getD 1 0#8).toNat .badCheck :=
  if_pos bad

section
variable (sound : byteSum (frame.drop 1) = 0#8)
include sound

theorem takeFrame_badRequest (unknown : (rights (frame.getD 1 0#8).toNat).isNone = true) :
    s.takeFrame p frame = s.refusedWith p (frame.getD 1 0#8).toNat .badRequest :=
  (if_neg (not_not.mpr sound)).trans (if_pos unknown)

theorem takeFrame_notPermitted (known : ¬ (rights (frame.getD 1 0#8).toNat).isNone = true)
    (wrong : permitted (frame.getD 1 0#8).toNat p = false) :
    s.takeFrame p frame = s.refusedWith p (frame.getD 1 0#8).toNat .notPermitted :=
  (if_neg (not_not.mpr sound)).trans ((if_neg known).trans (if_pos (by rw [wrong]; rfl)))

variable (right : permitted (frame.getD 1 0#8).toNat p = true)
include right

theorem takeFrame_badLength
    (unread : readRequest (frame.getD 1 0#8).toNat p s.seq.staging
      ((frame.drop 3).take (frame.getD 2 0#8).toNat) = none) :
    s.takeFrame p frame = s.refusedWith p (frame.getD 1 0#8).toNat .badLength := by
  rw [State.takeFrame, if_neg (not_not.mpr sound), if_neg (permitted_known right), right, if_neg (by decide), unread]
  rfl

theorem takeFrame_read {j : Instr}
    (read : readRequest (frame.getD 1 0#8).toNat p s.seq.staging
      ((frame.drop 3).take (frame.getD 2 0#8).toNat) = some j) :
    s.takeFrame p frame = (s.onPort p fun r => { r with state := .pending, received := frame }).hand j := by
  rw [State.takeFrame, if_neg (not_not.mpr sound), if_neg (permitted_known right), right, if_neg (by decide), read]

end
end

/-- The payload of a frame is what came in between its length byte and its check byte. -/
theorem payload_of_frame {received : List Byte} (b : Byte) (awaited : expectsCheck received = true) :
    ((received ++ [b]).drop 3).take ((received ++ [b]).getD 2 0#8).toNat = received.drop 3 := by
  rw [expectsCheck, Bool.and_eq_true_iff, decide_eq_true_iff, beq_iff_eq] at awaited
  obtain ⟨three, length⟩ := awaited
  have same : (received ++ [b]).getD 2 0#8 = received.getD 2 0#8 := by
    rw [List.getD_eq_getElem?_getD, List.getD_eq_getElem?_getD, List.getElem?_append_left (by omega)]
  rw [same, List.drop_append_of_le_length three, List.take_append_of_le_length (by rw [List.length_drop]; omega),
    List.take_of_length_le (by rw [List.length_drop]; omega)]

/-- The check byte of a frame that is kept completes it, whichever command brings it (R167). -/
theorem check_byte {s : State} (ready : s.loading = false) {p : Port} {b : Byte} {i : Instr}
    (receiving : (s.ports.at p).state = .receiving) (fresh : (s.ports.at p).shadow = [])
    (heeding : (s.ports.at p).ignoring = false) (awaited : expectsCheck (s.ports.at p).received = true)
    (from_line : i = .incomingByte p b ∨ i = .requestFrameComplete p b) :
    exec i s = .next
      ((s.onPort p (PortRecord.clocked p s.nowMs)).takeFrame p ((s.ports.at p).received ++ [b])) := by
  have event : exec i s = .next (s.takeByte p b) := by
    obtain rfl | rfl := from_line
    · exact exec_incomingByte ready p b
    · exact exec_requestFrameComplete ready b (by rw [partialFrame_received heeding fresh receiving, awaited])
  have at_p := onPort_at s p (PortRecord.clocked p s.nowMs)
  rw [event, takeByte_frame b heeding fresh, frameByte_receiving b (by rw [at_p, clocked_state, receiving]), at_p,
    clocked_received, not_expectsLength awaited, Bool.false_and, if_neg (by decide), if_pos awaited]

/-- The tests of a complete frame in their order, and the request handed on (R167). -/
theorem frame_tested {s t : State} (ready : s.loading = false) {p : Port} {b : Byte} {i : Instr}
    {frame payload : List Byte} {code : Nat}
    (receiving : (s.ports.at p).state = .receiving) (fresh : (s.ports.at p).shadow = [])
    (heeding : (s.ports.at p).ignoring = false) (awaited : expectsCheck (s.ports.at p).received = true)
    (frame_eq : frame = (s.ports.at p).received ++ [b]) (code_eq : code = (frame.getD 1 0#8).toNat)
    (payload_eq : payload = (s.ports.at p).received.drop 3)
    (from_line : i = .incomingByte p b ∨ i = .requestFrameComplete p b)
    (t_eq : t = s.onPort p (PortRecord.clocked p s.nowMs)) :
    (byteSum (frame.drop 1) ≠ 0#8 → exec i s = .next (t.refusedWith p code .badCheck)) ∧
    (byteSum (frame.drop 1) = 0#8 →
      (code = 0 ∨ 54 < code → exec i s = .next (t.refusedWith p code .badRequest)) ∧
      (1 ≤ code → code ≤ 54 → permitted code p = false → exec i s = .next (t.refusedWith p code .notPermitted)) ∧
      (permitted code p = true →
        (readRequest code p s.seq.staging payload = none → exec i s = .next (t.refusedWith p code .badLength)) ∧
        (∀ j, readRequest code p s.seq.staging payload = some j →
          requestOf j = some (p, code) ∧
          exec i s = exec j (t.onPort p fun r => { r with state := .pending, received := frame })))) := by
  have staging : t.seq.staging = s.seq.staging := by rw [t_eq]; rfl
  have taken : exec i s = .next (t.takeFrame p frame) := by
    rw [check_byte ready receiving fresh heeding awaited from_line, t_eq, frame_eq]
  have spelled : (frame.drop 3).take (frame.getD 2 0#8).toNat = payload := by
    rw [frame_eq, payload_eq, payload_of_frame b awaited]
  rw [taken, code_eq]
  refine ⟨fun bad => congrArg _ (takeFrame_badCheck bad), fun sound => ⟨fun outside => ?_, fun low high wrong => ?_,
    fun right => ⟨fun unread => ?_, fun j read => ?_⟩⟩⟩
  · exact congrArg _ (takeFrame_badRequest sound ((rights_isNone_iff _).mpr outside))
  · refine congrArg _ (takeFrame_notPermitted sound (fun unknown => ?_) wrong)
    have := (rights_isNone_iff _).mp unknown
    omega
  · exact congrArg _ (takeFrame_badLength sound right (by rw [spelled, staging, unread]))
  · have asked := requestOf_readRequest right read
    refine ⟨asked, ?_⟩
    rw [exec_eq_hand asked, takeFrame_read sound right (by rw [spelled, staging, read])]

end Sys2Proof.Machine
end

section
/-! What the payload of each request spells (R172), and the frames answered. -/

namespace Sys2Proof.Machine

section
variable {p : Port} {g : Option PlanStaging}

theorem readRequest_of_takes {code n : Nat} {r : Reader Instr} {v : List Byte → Instr}
    (named : requestReader code p g = some r) (h : Takes r n v) (bytes : List Byte) :
    readRequest code p g bytes = if bytes.length = n then some (v bytes) else none := by
  rw [readRequest, named]
  exact whole_eq (h bytes)

/-! ## STEP -/

theorem readRequest_step_none {bytes : List Byte} (length : bytes.length ≠ 1) :
    readRequest 9 p g bytes = if bytes.length = 0 then some (.step p none) else none := by
  match bytes, length with
  | [], _ => rfl
  | [_], length => exact absurd rfl length
  | _ :: _ :: _, _ => rfl

theorem readRequest_step_some {bytes : List Byte} (length : bytes.length ≠ 0) :
    readRequest 9 p g bytes = if bytes.length = 1 then some (.step p (some (byteOf bytes 0))) else none := by
  match bytes, length with
  | [], length => exact absurd rfl length
  | [_], _ => rfl
  | _ :: _ :: _, _ => exact (if_neg (by simp)).symm

/-! ## WRITE_PLAN -/

/-- Part 1 of WRITE_PLAN with its part number, with a number of stages that is given. -/
def rdPartOneWith (m : Nat) : Reader Instr := fun bs =>
  (rdU8 bs).bind fun k => (rdU8 k.2).bind fun p => (rdU16 p.2).bind fun c => (rdU16 c.2).bind fun o =>
  (rdU8 o.2).bind fun sy => (rdU8 sy.2).bind fun di => (rdU8 di.2).bind fun n =>
  (rdMany rdStageArgs m n.2).bind fun st =>
    some (Instr.writePlan (.one p.1 c.1 o.1 sy.1 di.1 n.1 st.1), st.2)

/-- Part 2 of WRITE_PLAN with its part number, with a number of stages that is given. -/
def rdPartTwoWith (m : Nat) : Reader Instr := fun bs =>
  (rdU8 bs).bind fun k => (rdU8 k.2).bind fun p => (rdMany rdStageArgs m p.2).bind fun st =>
    some (Instr.writePlan (.two p.1 st.1), st.2)

theorem takes_partOneWith (m : Nat) :
    Takes (rdPartOneWith m) (9 + 10 * m) fun bs =>
      .writePlan (.one (byteOf bs 1) (wordOf bs 2) (wordOf bs 4) (byteOf bs 6) (byteOf bs 7) (byteOf bs 8)
        ((List.range m).map fun j => stageFrom bs (9 + 10 * j))) :=
  (takes_rdU8.bind fun _ => takes_rdU8.bind fun p => takes_rdU16.bind fun c => takes_rdU16.bind fun o =>
    takes_rdU8.bind fun sy => takes_rdU8.bind fun di => takes_rdU8.bind fun n => (takes_stages m).bind fun st =>
    takes_some (Instr.writePlan (.one p c o sy di n st))).congr (by omega) fun bs => by simp [-List.drop_one]

theorem takes_partTwoWith (m : Nat) :
    Takes (rdPartTwoWith m) (2 + 10 * m) fun bs =>
      .writePlan (.two (byteOf bs 1) ((List.range m).map fun j => stageFrom bs (2 + 10 * j))) :=
  (takes_rdU8.bind fun _ => takes_rdU8.bind fun p => (takes_stages m).bind fun st =>
    takes_some (Instr.writePlan (.two p st))).congr (by omega) fun bs => by simp [-List.drop_one]

theorem rdWritePlan_one {bytes : List Byte} (one : byteOf bytes 0 = 1) :
    rdWritePlan g bytes = rdPartOneWith (min (byteOf bytes 8) 6) bytes := by
  match bytes with
  | [] => rfl
  | k :: rest =>
    have part : rdWritePlan g (k :: rest) = (rdPlanPartOne rest).bind fun x => some (Instr.writePlan x.1, x.2) := if_pos one
    rw [part]
    match rest with
    | [] | [_] | [_, _] | [_, _, _] | [_, _, _, _] | [_, _, _, _, _] | [_, _, _, _, _, _] | [_, _, _, _, _, _, _] => rfl
    | _ :: _ :: _ :: _ :: _ :: _ :: _ :: _ :: _ => exact Option.bind_assoc _ _ _

theorem rdWritePlan_two {bytes : List Byte} (two : byteOf bytes 0 = 2) :
    rdWritePlan g bytes = rdPartTwoWith (partTwoStages g (byteOf bytes 1) (bytes.length - 2)) bytes := by
  match bytes with
  | [] => rfl
  | k :: rest =>
    have part : rdWritePlan g (k :: rest) = (rdPlanPartTwo g rest).bind fun x => some (Instr.writePlan x.1, x.2) :=
      (if_neg (by change ¬ byteOf (k :: rest) 0 = 1; omega)).trans (if_pos two)
    rw [part]
    match rest with
    | [] => rfl
    | _ :: _ => exact Option.bind_assoc _ _ _

theorem rdWritePlan_other {bytes : List Byte} (some_byte : bytes ≠ []) (one : byteOf bytes 0 ≠ 1)
    (two : byteOf bytes 0 ≠ 2) : rdWritePlan g bytes = some (.writePlan (.other (byteOf bytes 0)), []) := by
  match bytes with
  | [] => exact absurd rfl some_byte
  | k :: rest => exact (if_neg one).trans (if_neg two)

/-- How many stages part 2 is read to hold (R63; log 12). -/
theorem partTwoStages_eq {plan left m : Nat}
    (staged : ∀ x, g = some x → x.plan.val + 1 = plan → 6 < x.count → m = x.count - 6)
    (unstaged : (∀ x, g = some x → x.plan.val + 1 = plan → x.count ≤ 6) → m = left / 10) :
    partTwoStages g plan left = m := by
  unfold partTwoStages
  cases g with
  | none => exact (unstaged nofun).symm
  | some x =>
    by_cases long : x.plan.val + 1 = plan ∧ 6 < x.count
    · exact (if_pos long).trans (staged x rfl long.1 long.2).symm
    · refine (if_neg long).trans (unstaged fun y same named => ?_).symm
      obtain rfl := Option.some.inj same
      exact Nat.le_of_not_lt fun more => long ⟨named, more⟩

end

/-- Settles O58: the tests of a frame in their order, and each payload by the reader of its code. -/
theorem framesAnswered : Obligations.FramesAnswered := by
  refine ⟨fun s t p b r frame payload code i ready r_eq receiving fresh heeding awaited frame_eq code_eq payload_eq
    from_line t_eq => ?_, fun p g bytes b w i bits stages spells b_eq w_eq i_eq bits_eq stages_eq spells_eq => ?_⟩
  · subst r_eq
    exact frame_tested ready receiving fresh heeding awaited frame_eq code_eq payload_eq from_line t_eq
  · subst b_eq w_eq i_eq bits_eq stages_eq spells_eq
    have none_read := fun {code : Nat} {j : Instr} (named : requestReader code p g = some (rdNone j)) =>
      readRequest_of_takes named (takes_none j) bytes
    have one_read := fun {code : Nat} {f : Nat → Instr} (named : requestReader code p g = some (rdOne f)) =>
      readRequest_of_takes named (takes_one f) bytes
    refine ⟨readRequest_of_takes rfl takes_writeGroup bytes, one_read rfl, none_read rfl,
      readRequest_of_takes rfl takes_startTimes bytes, none_read rfl, none_read rfl, none_read rfl, none_read rfl,
      readRequest_step_none, readRequest_step_some, one_read rfl, none_read rfl,
      readRequest_of_takes rfl takes_writeConflicts bytes, readRequest_of_takes rfl takes_writeIntergreens bytes,
      none_read rfl, one_read rfl, none_read rfl, ?_, fun one => ?_, fun two m staged unstaged => ?_,
      fun some_byte one two => ?_,
      readRequest_of_takes rfl (takes_two _) bytes, one_read rfl, one_read rfl, one_read rfl,
      readRequest_of_takes rfl takes_writeSubst bytes, one_read rfl, one_read rfl, none_read rfl, none_read rfl,
      none_read rfl, readRequest_of_takes rfl (takes_three _) bytes, none_read rfl, one_read rfl,
      readRequest_of_takes rfl takes_writeLamp bytes, one_read rfl, one_read rfl, none_read rfl, none_read rfl,
      readRequest_of_takes rfl takes_testSet bytes, one_read rfl, none_read rfl, none_read rfl, one_read rfl, one_read rfl,
      one_read rfl, none_read rfl, readRequest_of_takes rfl takes_writeQualifier bytes, one_read rfl, one_read rfl,
      one_read rfl, readRequest_of_takes rfl (takes_two _) bytes, none_read rfl, one_read rfl, none_read rfl,
      none_read rfl, none_read rfl, none_read rfl⟩
    · rintro rfl
      rfl
    · exact whole_eq ((rdWritePlan_one one).trans (takes_partOneWith _ bytes))
    · have count : partTwoStages g (byteOf bytes 1) (bytes.length - 2) = m := partTwoStages_eq staged unstaged
      subst count
      exact whole_eq ((rdWritePlan_two two).trans (takes_partTwoWith _ bytes))
    · change whole (rdWritePlan g) bytes = _
      rw [whole, rdWritePlan_other some_byte one two]
      rfl

end Sys2Proof.Machine
end

section
/-! Reset and the end of the load (R174): what stands after them. -/

namespace Sys2Proof.Machine

/-! ## Reset -/

/-- Stage 1 of the default plan is formed of zeros (R61, R67). -/
theorem form_default {q : Sequencer} (plans : q.plans = Image.default.plans) (substs : q.substs = Image.default.substs)
    (inForce : q.inForce = 0) : q.form 1 = RunningStage.initial := by
  have unmatched : q.substFor 1 = none := by
    unfold Sequencer.substFor SubstEntry.covers
    rw [substs]
    simp [Image.default]
  have plan : q.plan.count = 0 ∧ ∀ k, q.plan.stage k = Stage.zero := by
    unfold Sequencer.plan Plan.stage
    rw [plans]
    refine ⟨by simp [Image.default], fun k => ?_⟩
    cases numbered 12 k with
    | none => rfl
    | some k => simp [Image.default, Stage.zero]
  unfold Sequencer.form Sequencer.precedingEnd
  rw [unmatched, plan.1, inForce]
  dsimp only
  rw [plan.2, plan.2]
  rfl

theorem reset_running (s : State) : (s.restart.seq).form 1 = RunningStage.initial := form_default rfl rfl rfl

/-- A reset leaves every record at its reset value and the input pins at their levels (R62, R63, R67, R166, R174). -/
theorem reset_moves (s : State) :
    ∃ u, exec .powerOnReset s = .next u ∧ u.pending = s.pending ∧ u.expiries = s.expiries ∧ u.outbox = [] ∧ u.uptimeMs = 0 ∧
      (∀ p : Port, u.ports.at p =
        { state := .idle, received := [], response := none, overrun := false, shadow := [], ignoring := false,
          selected := (s.ports.at p).selected, sending := false, shifted := 0, dataOut := 0#8, lastByte := 0#32 }) ∧
      u.seq = Sequencer.atReset Image.default.plans Image.default.substs 0 (u.seq.form 1) s.seq.sync.input .low ∧
      u.engine =
        { State.reset.engine with
          feedbackClosed := s.engine.feedbackClosed
          hand := { raw := s.engine.hand.raw, debounced := false, timer := none }
          stepButton := { raw := s.engine.stepButton.raw, debounced := false, timer := none } } ∧
      u.store = { State.reset.store with memory := s.store.memory } ∧ u.conflicts = State.reset.conflicts ∧
      u.lamps = State.reset.lamps ∧
      u.cable = State.reset.cable ∧ u.quals = State.reset.quals ∧ u.faults = FaultTable.empty ∧
      u.history = History.empty ∧ u.engine.mode = .dark ∧ u.engine.groups = State.reset.engine.groups ∧
      u.engine.aspects = State.reset.engine.aspects ∧ u.engine.contactorClosed = false ∧
      u.engine.feedbackClosed = s.engine.feedbackClosed ∧ u.engine.hand.raw = s.engine.hand.raw ∧
      u.engine.hand.debounced = false ∧ u.engine.stepButton.raw = s.engine.stepButton.raw ∧
      u.seq.plans = State.reset.seq.plans ∧ u.seq.sync.input = s.seq.sync.input := by
  refine ⟨s.restart, rfl, rfl, rfl, rfl, rfl, fun p => by cases p <;> rfl, ?_, rfl, rfl, rfl, rfl, rfl, rfl, rfl, rfl, rfl,
    rfl, rfl, rfl, rfl, rfl, rfl, rfl, rfl, rfl⟩
  rw [reset_running]
  rfl

/-! ## The load -/

/-- The stored fields after a load are those of the image (R174). -/
theorem loadedFrom_image (img : Image) (outcome : LoadOutcome) (s : State) : (s.loadedFrom img outcome).image = img := by
  have groups : (s.loadedFrom img outcome).image.groups = img.groups := by
    ext g inside : 1
    simp [State.image, State.loadedFrom, Engine.loaded, Engine.reset, mapBank]
  have lamps : (s.loadedFrom img outcome).image.lamps = img.lamps := by
    ext g inside : 1
    simp [State.image, State.loadedFrom, LampUnit.reset, mapBank]
  have qualifiers : (s.loadedFrom img outcome).image.qualifiers = img.qualifiers := by
    ext g inside : 1
    simp [State.image, State.loadedFrom, Qualifier.resetAll, mapBank]
  calc (s.loadedFrom img outcome).image
      = { img with
          groups := (s.loadedFrom img outcome).image.groups, lamps := (s.loadedFrom img outcome).image.lamps,
          qualifiers := (s.loadedFrom img outcome).image.qualifiers } := rfl
    _ = img := by rw [groups, lamps, qualifiers]

/-- The plan in force after a load is the lowest-numbered VALID plan, and plan 1 when none is (R62). -/
theorem firstPlan_spec (plans : Vector Plan 8) :
    ((∀ p : PlanId, plans[p].validity = .invalid) → firstPlan plans = 0) ∧
    ∀ p : PlanId, plans[p].validity = .valid →
      plans[firstPlan plans].validity = .valid ∧ firstPlan plans ≤ p := by
  obtain unfound | ⟨q, found⟩ := Option.eq_none_or_eq_some
    ((List.finRange 8).find? fun p => plans[p].validity == .valid)
  · refine ⟨fun _ => by rw [firstPlan, unfound]; rfl, fun p valid => ?_⟩
    exact absurd (beq_iff_eq.mpr valid) (List.find?_eq_none.mp unfound p (List.mem_finRange p))
  · have first : firstPlan plans = q := by rw [firstPlan, found]; rfl
    obtain ⟨valid, k, inside, at_k, earlier⟩ := List.find?_eq_some_iff_getElem.mp found
    have valid : plans[q].validity = .valid := beq_iff_eq.mp valid
    have least : ∀ p : PlanId, plans[p].validity = .valid → q ≤ p := by
      intro p p_valid
      rw [List.getElem_finRange] at at_k
      subst at_k
      by_contra before
      have skipped := earlier p.val (Nat.lt_of_not_le before)
      rw [List.getElem_finRange] at skipped
      exact absurd (beq_iff_eq.mpr p_valid) (by simpa using skipped)
    subst first
    exact ⟨fun invalid => absurd ((invalid _).symm.trans valid) (by decide), fun p p_valid => ⟨valid, least p p_valid⟩⟩

/-- The sequencer after a load is at its reset values, with stage 1 of the plan in force as its running stage (R67). -/
theorem sequencer_loaded (img : Image) (input : Bool) :
    Sequencer.loaded img input =
      Sequencer.atReset img.plans img.substs (firstPlan img.plans) ((Sequencer.loaded img input).form 1) input
        (if input then .high else .low) :=
  rfl

theorem loaded_inForce {img : Image} {input : Bool} {q : Sequencer} (loaded : q = Sequencer.loaded img input) :
    ((∀ p : PlanId, q.plans[p].validity = .invalid) → q.inForce = 0) ∧
    ∀ p : PlanId, q.plans[p].validity = .valid → q.plans[q.inForce].validity = .valid ∧ q.inForce ≤ p := by
  subst loaded
  exact firstPlan_spec img.plans

/-- What holds after a load, over the image it ends with (R174). -/
structure LoadEnded (img : Image) (s u : State) : Prop where
  image : u.image = img
  idle : u.store.state = .idle
  lastSave : u.store.lastSave = .none
  history : u.history = History.empty
  outbox : u.outbox = []
  pending : u.pending = s.pending
  expiries : u.expiries = s.expiries
  uptime : u.uptimeMs = 0
  clock : u.engine.clock = 0
  mode : u.engine.mode = .dark
  seq : u.seq = Sequencer.loaded img s.seq.sync.input
  cable : u.cable = CableUnit.reset img
  lamps : u.lamps = LampUnit.reset img
  ports : u.ports = s.ports
  engine : u.engine = Engine.loaded img s.engine
  quals : u.quals = Qualifier.resetAll img

/-- The bytes read from the memory are no part of what a load ends with. -/
theorem LoadEnded.of_memoryRead {img : Image} {memory : List Byte} {s u : State} (h : LoadEnded img (s.memoryRead memory) u) :
    LoadEnded img s u :=
  { h with }

theorem loadedFrom_ended (img : Image) (outcome : LoadOutcome) (s : State) :
    LoadEnded img s (s.loadedFrom img outcome) where
  image := loadedFrom_image img outcome s
  idle := rfl
  lastSave := rfl
  history := rfl
  outbox := rfl
  pending := rfl
  expiries := rfl
  uptime := rfl
  clock := rfl
  mode := rfl
  seq := rfl
  cable := rfl
  lamps := rfl
  ports := rfl
  engine := rfl
  quals := rfl

theorem loadFailed_ended (s : State) : LoadEnded Image.default s s.loadFailed where
  image := loadedFrom_image Image.default .bad s
  idle := rfl
  lastSave := rfl
  history := rfl
  outbox := rfl
  pending := rfl
  expiries := rfl
  uptime := rfl
  clock := rfl
  mode := rfl
  seq := rfl
  cable := rfl
  lamps := rfl
  ports := rfl
  engine := rfl
  quals := rfl

theorem loadFailed_faults (s : State) :
    s.loadFailed.faults.records = [FaultRecord.mk .storeCheck .none .active false 0#32 0#32 1] := by
  have now : (s.loadedFrom Image.default .bad).nowSec = 0#32 := by
    have uptime : (s.loadedFrom Image.default .bad).uptimeMs = 0 := rfl
    exact congrArg (fun ms => BitVec.ofNat 32 (ms / 1000)) uptime
  rw [State.loadFailed, State.raise, now]
  rfl

theorem exec_storeLoadEnd_some {s : State} (loading : s.loading = true) {memory : List Byte} {img : Image}
    (in_time : s.store.timer ≤ 2500) (judged : judgeImage memory = some img) :
    exec (.storeLoadEnd memory) s = .next ((s.memoryRead memory).loadedFrom img .good) := by
  rw [exec, execStoreLoadEnd, if_pos loading, judged]
  exact congrArg Host.Outcome.next (if_pos (decide_eq_true in_time))

theorem exec_storeLoadEnd_none {s : State} (loading : s.loading = true) {memory : List Byte}
    (failed : (if s.store.timer ≤ 2500 then judgeImage memory else none) = none) :
    exec (.storeLoadEnd memory) s = .next (s.memoryRead memory).loadFailed := by
  rw [exec, execStoreLoadEnd, if_pos loading]
  by_cases in_time : s.store.timer ≤ 2500
  · rw [if_pos in_time] at failed
    rw [failed]
  · have late : s.store.inTime = false := decide_eq_false in_time
    cases judgeImage memory with
    | none => rfl
    | some img =>
      dsimp only
      rw [late, if_neg (by decide)]

/-- How a load ends: with the image that is judged good in time, or with the defaults (R174). -/
theorem load_ends {s : State} (loading : s.loading = true) {memory : List Byte} {i : Instr} {o : Option Image}
    (ends : i = .storeLoadEnd memory ∧ o = (if s.store.timer ≤ 2500 then judgeImage memory else none) ∨
      i = .storeLoadTimeout ∧ o = none) :
    ∃ u, exec i s = .next u ∧ LoadEnded (o.getD Image.default) s u ∧
      u.store.lastLoad = (if o = none then .bad else .good) ∧
      u.faults.records =
        (if o = none then [FaultRecord.mk .storeCheck .none .active false 0#32 0#32 1] else []) := by
  have fails : ∀ t : State, o = none → exec i s = .next t.loadFailed → LoadEnded Image.default s t.loadFailed →
      ∃ u, exec i s = .next u ∧ LoadEnded (o.getD Image.default) s u ∧
        u.store.lastLoad = (if o = none then .bad else .good) ∧
        u.faults.records =
          (if o = none then [FaultRecord.mk .storeCheck .none .active false 0#32 0#32 1] else []) := by
    rintro t rfl next ended
    exact ⟨_, next, ended, rfl, loadFailed_faults t⟩
  obtain ⟨rfl, judged⟩ | ⟨rfl, rfl⟩ := ends
  · cases o with
    | none => exact fails _ rfl (exec_storeLoadEnd_none loading judged.symm) (loadFailed_ended _).of_memoryRead
    | some img =>
      obtain ⟨in_time, good⟩ := Option.ite_none_right_eq_some.mp judged.symm
      exact ⟨_, exec_storeLoadEnd_some loading in_time good, (loadedFrom_ended img .good _).of_memoryRead, rfl, rfl⟩
  · exact fails s rfl (congrArg Host.Outcome.next (if_pos loading)) (loadFailed_ended s)

theorem load_moves {s : State} (loading : s.loading = true) {memory : List Byte} (i : Instr) (o : Option Image)
    (ends : i = .storeLoadEnd memory ∧ o = (if s.store.timer ≤ 2500 then judgeImage memory else none) ∨
      i = .storeLoadTimeout ∧ o = none) :
    ∃ u, exec i s = .next u ∧ u.image = o.getD Image.default ∧ u.store.state = .idle ∧
      u.store.lastLoad = (if o = none then .bad else .good) ∧ u.store.lastSave = .none ∧
      u.faults.records =
        (if o = none then [FaultRecord.mk .storeCheck .none .active false 0#32 0#32 1] else []) ∧
      u.history = History.empty ∧ u.outbox = [] ∧ u.pending = s.pending ∧ u.expiries = s.expiries ∧
      u.uptimeMs = 0 ∧ u.engine.clock = 0 ∧
      u.engine.mode = .dark ∧ u.seq.state = .stopped ∧ u.seq.cycleTimer = 0 ∧ u.cable.flight = none ∧
      u.cable.queue = [] ∧ u.lamps.scanState = .suspended ∧
      u.seq = Sequencer.atReset u.seq.plans u.seq.substs u.seq.inForce (u.seq.form 1) s.seq.sync.input
        (if s.seq.sync.input then .high else .low) ∧
      u.ports = s.ports ∧ ((∀ p : PlanId, u.seq.plans[p].validity = .invalid) → u.seq.inForce = 0) ∧
      (∀ g : GroupId, u.engine.groups[g].state = .dark) ∧ (∀ q : QualId, u.quals[q].state = .idle) ∧
      (∀ p : PlanId, u.seq.plans[p].validity = .valid →
        u.seq.plans[u.seq.inForce].validity = .valid ∧ u.seq.inForce ≤ p) := by
  obtain ⟨u, next, ended, outcome, faults⟩ := load_ends loading ends
  obtain ⟨unplanned, planned⟩ := loaded_inForce ended.seq
  refine ⟨u, next, ended.image, ended.idle, outcome, ended.lastSave, faults, ended.history, ended.outbox, ended.pending,
    ended.expiries, ended.uptime, ended.clock, ended.mode, ?_, ?_, ?_, ?_, ?_, ?_, ended.ports, ?_, fun g => ?_, fun q => ?_,
    ?_⟩
  · rw [ended.seq]; rfl
  · rw [ended.seq]; rfl
  · rw [ended.cable]; rfl
  · rw [ended.cable]; rfl
  · rw [ended.lamps]; rfl
  · rw [ended.seq]; exact sequencer_loaded _ _
  · exact unplanned
  · rw [ended.engine]; exact resetEngine_group _ g
  · rw [ended.quals, Qualifier.resetAll, Fin.getElem_fin, Vector.getElem_ofFn]
  · exact planned

end Sys2Proof.Machine
end

section
/-! SAVE_STORE, its writes in each ms, and the ends of a save (R175, R176). -/

namespace Sys2Proof.Machine

/-! ## Outside a load and a save -/

theorem loadEnd_elsewhere {s : State} (ready : s.loading = false) (memory : List Byte) :
    exec (.storeLoadEnd memory) s = .next s ∧ exec .storeLoadTimeout s = .next s := by
  have not_loading : ¬ s.loading = true := by rw [ready]; decide
  exact ⟨congrArg Host.Outcome.next (if_neg not_loading), congrArg Host.Outcome.next (if_neg not_loading)⟩

theorem saveEnd_elsewhere {s : State} (idle : s.saving = false) (memory : List Byte) :
    exec (.storeSaveEnd memory) s = .next s ∧ exec .storeSaveTimeout s = .next s := by
  have not_saving : ¬ s.saving = true := by rw [idle]; decide
  exact ⟨congrArg Host.Outcome.next (if_neg not_saving), congrArg Host.Outcome.next (if_neg not_saving)⟩

/-! ## The writes -/

theorem writes_eq (m : Image) :
    m.writes =
      [⟨0, [1#8, 0x37#8, 0x08#8]⟩, ⟨3, m.sections⟩, ⟨2101, m.crc⟩, ⟨0, [0#8, 0x37#8, 0x08#8]⟩] :=
  rfl

theorem saveStore_busy {s : State} (ready : s.loading = false) (saving : s.saving = true) :
    exec .saveStore s = .next (s.refusedWith .plan 53 .busy) :=
  congrArg Host.Outcome.next
    (serve_refused ready (by decide) (by rw [reqSaveStore, if_pos saving]))

theorem saveStore_begins {s : State} (ready : s.loading = false) (idle : s.saving = false) :
    exec .saveStore s = .next (State.ok .plan 53 []
      { s with
        store.state := .saving
        store.copy := some s.image
        store.timer := 0
        store.toWrite := s.image.writes.drop 1
        store.memory := [1#8, 0x37#8, 0x08#8] ++ s.store.memory.drop 3 }) :=
  congrArg Host.Outcome.next
    (serve_ok ready (by decide) (by rw [reqSaveStore, if_neg (by rw [idle]; decide)]; rfl))

/-- What a ms of a save does to the store: the next write, when one is left (R175; log 23). -/
theorem save_millisecond {s : State} (saving : s.saving = true) (waiting : s.pending = []) (still : s.outbox = [])
    (none_due : s.expired = []) (uncounted : s.uptimeMs % 100 ≠ 99) :
    step s = .next { s with
      uptimeMs := s.uptimeMs + 1
      store := { s.store with
        timer := s.store.timer + 1
        toWrite := s.store.toWrite.drop 1
        memory := (s.store.toWrite.take 1).foldl StoreWrite.into s.store.memory } } := by
  have state : s.store.state = .saving := beq_iff_eq.mp saving
  have ready : ¬ s.loading = true := by rw [State.loading, state]; decide
  rw [step_idle waiting, idle_passes still (by rw [none_due]; rfl), State.millisecond, if_neg ready, if_neg uncounted,
    State.onStore, pass_saving state]

theorem save_writes {s : State} (saving : s.saving = true) (waiting : s.pending = []) (still : s.outbox = [])
    (none_due : s.expired = []) (uncounted : s.uptimeMs % 100 ≠ 99) :
    (∀ (w : StoreWrite) (rest : List StoreWrite), s.store.toWrite = w :: rest →
      step s = .next { s with
        uptimeMs := s.uptimeMs + 1
        store.timer := s.store.timer + 1
        store.toWrite := rest
        store.memory := s.store.memory.take w.place ++ w.bytes ++ s.store.memory.drop (w.place + w.bytes.length) }) ∧
    (s.store.toWrite = [] → step s = .next { s with uptimeMs := s.uptimeMs + 1, store.timer := s.store.timer + 1 }) := by
  have moved := save_millisecond saving waiting still none_due uncounted
  refine ⟨fun w rest left => ?_, fun done => ?_⟩
  · rw [left] at moved
    exact moved
  · have unwritten : s.store.toWrite.drop 1 = s.store.toWrite ∧
        (s.store.toWrite.take 1).foldl StoreWrite.into s.store.memory = s.store.memory := by
      rw [done]
      exact ⟨rfl, rfl⟩
    rw [unwritten.1, unwritten.2] at moved
    exact moved

/-! ## The end of a save -/

theorem judgeImage_isSome (memory : List Byte) : (judgeImage memory).isSome = imageGood memory := by
  unfold judgeImage
  cases imageGood memory <;> rfl

/-- How a save ends: GOOD or BAD by what is read back in time (R176). -/
theorem save_ends {s : State} (saving : s.saving = true) {memory : List Byte} (i : Instr) (good : Bool)
    (held : List Byte)
    (ends : i = .storeSaveEnd memory ∧ held = memory ∧
        good = ((judgeImage memory).isSome && decide (s.store.timer ≤ 2500)) ∨
      i = .storeSaveTimeout ∧ held = s.store.memory ∧ good = false) :
    ∃ u, exec i s = .next u ∧
      u.store =
        { s.store with
          state := .idle
          lastSave := if good then .good else .bad
          lastSaveTime := s.nowSec
          copy := none
          timer := 0
          toWrite := []
          memory := held } ∧
      u.faults = (if good then (s.clear .storeCheck .none).faults else (s.raise .storeCheck .none).faults) ∧
      u = { s with store := u.store, faults := u.faults } := by
  obtain ⟨rfl, rfl, good_eq⟩ | ⟨rfl, rfl, rfl⟩ := ends
  · rw [judgeImage_isSome] at good_eq
    have taken : exec (.storeSaveEnd held) s = .next
        (if good = true then ((s.memoryRead held).saveEnds .good).clear .storeCheck .none
         else ((s.memoryRead held).saveEnds .bad).raise .storeCheck .none) := by
      rw [good_eq]
      exact congrArg Host.Outcome.next (if_pos saving)
    rw [taken]
    cases good with
    | true => exact ⟨_, rfl, rfl, rfl, rfl⟩
    | false => exact ⟨_, rfl, rfl, rfl, rfl⟩
  · exact ⟨_, congrArg Host.Outcome.next (if_pos saving), rfl, rfl, rfl⟩

end Sys2Proof.Machine
end

section
/-! The bytes of an image: their number, and what the writes of a save leave in the memory (R173, R175). -/

namespace Sys2Proof.Machine

/-! ## Lengths -/

@[simp] theorem u8_length (n : Nat) : (u8 n).length = 1 := rfl
@[simp] theorem u16_length (n : Nat) : (u16 n).length = 2 := rfl
@[simp] theorem flag_length (b : Bool) : (flag b).length = 1 := rfl

@[simp] theorem enum_length {α : Type} [DecidableEq α] (values : List α) (x : α) : (enum values x).length = 1 := rfl

theorem bitBytes_length (bits : List Bool) (n : Nat) : (bitBytes bits n).length = n := by
  induction n generalizing bits with
  | zero => rfl
  | succ n ih => rw [bitBytes, List.length_cons, ih]

@[simp] theorem groupSetBytes_length (set : GroupSet) : (groupSetBytes set).length = 2 := bitBytes_length _ 2
@[simp] theorem coreSetBytes_length (set : CoreSet) : (coreSetBytes set).length = 8 := bitBytes_length _ 8

theorem length_flatMap_of_const {α β : Type} {f : α → List β} {n : Nat} (each : ∀ a, (f a).length = n) (l : List α) :
    (l.flatMap f).length = n * l.length := by
  induction l with
  | nil => rfl
  | cons a l ih => rw [List.flatMap_cons, List.length_append, each, ih, List.length_cons, Nat.mul_succ, Nat.add_comm]

theorem groupConfigBytes_length (g : GroupConfig) : (groupConfigBytes g).length = 8 := rfl
theorem lampConfigBytes_length (l : LampConfig) : (lampConfigBytes l).length = 9 := rfl
theorem substBytes_length (e : SubstEntry) : (substBytes e).length = 10 := rfl
theorem qualifierConfigBytes_length (q : QualifierConfig) : (qualifierConfigBytes q).length = 11 := rfl
theorem stageBytes_length (st : Stage) : (stageBytes st).length = 10 := rfl

theorem planBytes_length (p : Plan) : (planBytes p).length = 128 := by
  simp [planBytes, length_flatMap_of_const stageBytes_length]

/-- The sections of an image fill what the header and the CRC leave of its length (R173). -/
theorem sections_length (m : Image) : m.sections.length = 2098 := by
  simp only [Image.sections, List.length_append, length_flatMap_of_const groupSetBytes_length,
    length_flatMap_of_const (f := fun row : IgRow => row.toList) (n := 16) (fun row => by simp),
    length_flatMap_of_const groupConfigBytes_length, length_flatMap_of_const lampConfigBytes_length,
    length_flatMap_of_const planBytes_length, length_flatMap_of_const substBytes_length,
    length_flatMap_of_const qualifierConfigBytes_length, Vector.length_toList, u8_length, u16_length, flag_length,
    enum_length, coreSetBytes_length]

/-! ## The memory under the writes of a save -/

theorem into_zero (memory : List Byte) (bytes : List Byte) :
    StoreWrite.into memory ⟨0, bytes⟩ = bytes ++ memory.drop bytes.length := by
  simp [StoreWrite.into]

/-- A write right after the bytes that stand at the front. -/
theorem into_after {front bytes rest : List Byte} {k : Nat} (length : front.length = k) :
    StoreWrite.into (front ++ rest) ⟨k, bytes⟩ = front ++ bytes ++ rest.drop bytes.length := by
  subst length
  simp [StoreWrite.into]

/-- A write over the bytes that stand at the front. -/
theorem into_front {front bytes rest : List Byte} (length : bytes.length = front.length) :
    StoreWrite.into (front ++ rest) ⟨0, bytes⟩ = bytes ++ rest := by
  rw [into_zero, length, List.drop_left]

section
variable (m : Image) (memory : List Byte)

theorem written_once : (m.writes.take 1).foldl StoreWrite.into memory = [1#8, 0x37#8, 0x08#8] ++ memory.drop 3 :=
  into_zero memory _

theorem written_twice :
    (m.writes.take 2).foldl StoreWrite.into memory = [1#8, 0x37#8, 0x08#8] ++ m.sections ++ memory.drop 2101 := by
  change StoreWrite.into ((m.writes.take 1).foldl StoreWrite.into memory) ⟨3, m.sections⟩ = _
  rw [written_once, into_after (front := [1#8, 0x37#8, 0x08#8]) (k := 3) rfl, sections_length, List.drop_drop]

theorem written_thrice :
    (m.writes.take 3).foldl StoreWrite.into memory =
      [1#8, 0x37#8, 0x08#8] ++ m.sections ++ m.crc ++ memory.drop 2103 := by
  change StoreWrite.into ((m.writes.take 2).foldl StoreWrite.into memory) ⟨2101, m.crc⟩ = _
  rw [written_twice, into_after (by rw [List.length_append, sections_length]; rfl), List.drop_drop]
  rfl

theorem written_whole : m.writes.foldl StoreWrite.into memory = m.bytes ++ memory.drop 2103 := by
  change StoreWrite.into ((m.writes.take 3).foldl StoreWrite.into memory) ⟨0, [0#8, 0x37#8, 0x08#8]⟩ = _
  rw [written_thrice, List.append_assoc, List.append_assoc, into_front (front := [1#8, 0x37#8, 0x08#8]) (bytes := [0#8, 0x37#8, 0x08#8]) rfl, ← List.append_assoc, ← List.append_assoc]
  rfl

theorem bytes_length : m.bytes.length = 2103 := by
  rw [Image.bytes, List.length_append, List.length_append, sections_length]
  rfl

/-- The memory holds the whole image once every write is made (R175). -/
theorem written_image : (m.writes.foldl StoreWrite.into memory).take 2103 = m.bytes := by
  rw [written_whole, ← bytes_length m, List.take_left]

end

/-- A memory whose marker reads INCOMPLETE is BAD (R174, R176). -/
theorem judgeImage_incomplete (rest : List Byte) : judgeImage ([1#8, 0x37#8, 0x08#8] ++ rest) = none := by
  have marker : (([1#8, 0x37#8, 0x08#8] ++ rest).take 3 == imageHeader .complete) = false := by
    change ([1#8, 0x37#8, 0x08#8] == imageHeader .complete) = false
    decide
  rw [judgeImage, imageGood, marker]
  rfl

/-- A save that is cut off between two writes leaves a memory that is BAD (R176). -/
theorem cutOff_bad (m : Image) (memory : List Byte) {k : Nat} (low : 1 ≤ k) (high : k ≤ 3) :
    judgeImage ((m.writes.take k).foldl StoreWrite.into memory) = none := by
  match k, low, high with
  | 1, _, _ => rw [written_once, judgeImage_incomplete]
  | 2, _, _ => rw [written_twice, List.append_assoc, judgeImage_incomplete]
  | 3, _, _ => rw [written_thrice, List.append_assoc, List.append_assoc, judgeImage_incomplete]

/-! ## A plan's bytes -/

theorem stageBytes_zero : stageBytes Stage.zero = List.replicate 10 0#8 := by decide

theorem stage_succ (p : Plan) (k : Fin 12) : p.stage (k.val + 1) = p.stages[k] := by
  rw [Plan.stage, numbered_val_add_one]

theorem planBank_getElem (count : Nat) (stage : Fin 12 → Stage) (k : Nat) (inside : k < 12) :
    (planBank count stage)[k] = if k < count then stage ⟨k, inside⟩ else Stage.zero :=
  Vector.getElem_ofFn inside

/-- The stage records past a plan's count are sent as 0 (R172). -/
theorem planBytes_eq (p : Plan) :
    planBytes p =
      u16 p.cycle ++ u16 p.offset ++ flag p.sync ++ flag p.dim ++ u8 p.count ++
      (List.range 12).flatMap (fun k => if k < p.count then stageBytes (p.stage (k + 1)) else List.replicate 10 0#8) ++
      enum validities p.validity := by
  have stages : (planBank p.count fun k => p.stages[k]).toList =
      (List.range 12).map fun k => if k < p.count then p.stage (k + 1) else Stage.zero := by
    refine List.ext_getElem (by simp) fun k low high => ?_
    have inside : k < 12 := by simpa using high
    rw [Vector.getElem_toList, planBank_getElem, List.getElem_map, List.getElem_range, stage_succ p ⟨k, inside⟩]
  rw [planBytes, stages, List.flatMap_map]
  refine congrArg (fun bytes => _ ++ bytes ++ _) (List.flatMap_congr fun k _ => ?_)
  rw [← stageBytes_zero, apply_ite stageBytes]

end Sys2Proof.Machine
end

section
/-! The fields of an image, each at its place (R172 to R174). -/

namespace Sys2Proof.Machine

/-! ## A field's bytes -/

/-- The bytes of a field of an image. -/
def fieldBytes (image : List Byte) (place size : Nat) : List Byte := (image.drop place).take size

section
variable {image : List Byte} {place size : Nat}

theorem fieldBytes_length (room : place + size ≤ image.length) : (fieldBytes image place size).length = size := by
  rw [fieldBytes, List.length_take, List.length_drop]
  omega

theorem fieldBytes_getD {k : Nat} (inside : k < size) :
    (fieldBytes image place size).getD k 0#8 = image.getD (place + k) 0#8 := by
  rw [fieldBytes, List.getD_eq_getElem?_getD, List.getD_eq_getElem?_getD, List.getElem?_take_of_lt inside,
    List.getElem?_drop]

theorem byteOf_fieldBytes {k : Nat} (inside : k < size) :
    byteOf (fieldBytes image place size) k = byteOf image (place + k) := by
  rw [byteOf, byteOf, fieldBytes_getD inside]

theorem wordOf_fieldBytes : wordOf (fieldBytes image place 2) 0 = wordOf image place := by
  rw [wordOf, wordOf, byteOf_fieldBytes (by decide), byteOf_fieldBytes (by decide)]
  rfl

theorem bitsFrom_fieldBytes {n k i : Nat} (inside : i < n) (room : k + i / 8 < size) :
    (bitsFrom (fieldBytes image place size) n k)[i] = (image.getD (place + k + i / 8) 0#8).getLsbD (i % 8) := by
  rw [bitsFrom, Vector.getElem_ofFn, fieldBytes_getD room, Nat.add_assoc]

variable {α : Type} {r : Reader α} {free : Nat → α} {x : α} {rest : List Byte}

theorem fieldAt_of_read (read : r (fieldBytes image place size) = some (x, rest)) :
    fieldAt place size r free image = x := by
  change (match r (fieldBytes image place size) with
    | some (x, _) => x
    | none => free (Config.imageField place (fieldBytes image place size))) = x
  rw [read]

theorem read_of_takes {v : List Byte → α} (takes : Takes r size v) (room : place + size ≤ image.length) :
    r (fieldBytes image place size) = some (v (fieldBytes image place size), []) := by
  rw [takes, if_pos (Nat.le_of_eq (fieldBytes_length room).symm),
    List.drop_eq_nil_of_le (Nat.le_of_eq (fieldBytes_length room))]

theorem rdU8_field (room : place + 1 ≤ image.length) :
    rdU8 (fieldBytes image place 1) = some (byteOf image place, []) := by
  rw [read_of_takes takes_rdU8 room, byteOf_fieldBytes (by decide), Nat.add_zero]

theorem rdU16_field (room : place + 2 ≤ image.length) :
    rdU16 (fieldBytes image place 2) = some (wordOf image place, []) := by
  rw [read_of_takes takes_rdU16 room, wordOf_fieldBytes]

end

/-! ## The kinds of fields -/

section
variable {image : List Byte} {place : Nat}

theorem enumAt_eq {α : Type} [DecidableEq α] {values : List α} {first x : α} (room : place + 1 ≤ image.length)
    (code : byteOf image place = codeOf values x) (known : x ∈ values) : enumAt place values first image = x := by
  refine fieldAt_of_read (rest := []) ?_
  change (rdU8 (fieldBytes image place 1)).bind (fun n => (valueOf values n.1).bind fun x => some (x, n.2)) = _
  rw [rdU8_field room, code, Option.bind_some, valueOf_codeOf known]
  rfl

theorem flagAt_eq (room : place + 1 ≤ image.length) (within : byteOf image place ≤ 1) :
    flagAt place image = decide (byteOf image place = 1) := by
  refine fieldAt_of_read (rest := []) ?_
  change (rdU8 (fieldBytes image place 1)).bind (fun n => (valueOf [false, true] n.1).bind fun x => some (x, n.2)) = _
  rw [rdU8_field room, Option.bind_some]
  obtain zero | one : byteOf image place = 0 ∨ byteOf image place = 1 := by omega
  · rw [zero]; rfl
  · rw [one]; rfl

theorem byteAt_eq {lo hi : Nat} (room : place + 1 ≤ image.length) (low : lo ≤ byteOf image place)
    (high : byteOf image place ≤ hi) : byteAt place lo hi image = byteOf image place := by
  refine fieldAt_of_read (rest := []) ?_
  change (rdU8 (fieldBytes image place 1)).bind (fun n => if lo ≤ n.1 ∧ n.1 ≤ hi then some (n.1, n.2) else none) = _
  rw [rdU8_field room, Option.bind_some, if_pos ⟨low, high⟩]

theorem wordAt_eq {lo hi : Nat} (room : place + 2 ≤ image.length) (low : lo ≤ wordOf image place)
    (high : wordOf image place ≤ hi) : wordAt place lo hi image = wordOf image place := by
  refine fieldAt_of_read (rest := []) ?_
  change (rdU16 (fieldBytes image place 2)).bind (fun n => if lo ≤ n.1 ∧ n.1 ≤ hi then some (n.1, n.2) else none) = _
  rw [rdU16_field room, Option.bind_some, if_pos ⟨low, high⟩]

theorem byteOf_lt (bs : List Byte) (k : Nat) : byteOf bs k < 256 := (bs.getD k 0#8).isLt

theorem wordOf_le (bs : List Byte) (k : Nat) : wordOf bs k ≤ 65535 := by
  have low := byteOf_lt bs k
  have high := byteOf_lt bs (k + 1)
  rw [wordOf]
  omega

/-- A field that takes any two bytes holds their number. -/
theorem wordAt_any (room : place + 2 ≤ image.length) : wordAt place 0 65535 image = wordOf image place :=
  wordAt_eq room (Nat.zero_le _) (wordOf_le _ _)

theorem signedAt_eq (room : place + 2 ≤ image.length) : signedAt place image = intOf image place := by
  refine fieldAt_of_read (rest := []) ?_
  rw [read_of_takes takes_rdI16 room, wordOf_fieldBytes]
  rfl

theorem bitsAt_getElem {n i : Nat} (room : place + n / 8 ≤ image.length) (inside : i < n) (whole : i / 8 < n / 8) :
    (bitsAt place n image)[i] = (image.getD (place + i / 8) 0#8).getLsbD (i % 8) := by
  have read : bitsAt place n image = bitsFrom (fieldBytes image place (n / 8)) n 0 :=
    fieldAt_of_read (read_of_takes (takes_bits n) room)
  rw [read, bitsFrom_fieldBytes inside (by omega)]
  rfl

theorem indexAt_eq {n : Nat} {free : Nat → Fin n} (room : place + 1 ≤ image.length) (low : 1 ≤ byteOf image place)
    (high : byteOf image place ≤ n) : (fieldAt place 1 (rdIndex n) free image).val + 1 = byteOf image place := by
  have read : fieldAt place 1 (rdIndex n) free image = ⟨byteOf image place - 1, by omega⟩ := by
    refine fieldAt_of_read (rest := []) ?_
    change (rdU8 (fieldBytes image place 1)).bind
      (fun k => if h : 1 ≤ k.1 ∧ k.1 ≤ n then some ((⟨k.1 - 1, by omega⟩ : Fin n), k.2) else none) = _
    rw [rdU8_field room, Option.bind_some, dif_pos ⟨low, high⟩]
  rw [read]
  exact Nat.sub_add_cancel low

end

/-! ## The records of an image -/

section
variable {image : List Byte} (room : 2103 ≤ image.length)
include room

/-- A matrix that is symmetric with a false diagonal is read as it stands (R40). -/
theorem matrix_read
    (sound : ∀ i j : GroupId,
      (image.getD (6 + 2 * i.val + j.val / 8) 0#8).getLsbD (j.val % 8) =
          (image.getD (6 + 2 * j.val + i.val / 8) 0#8).getLsbD (i.val % 8) ∧
        (image.getD (6 + 2 * i.val + i.val / 8) 0#8).getLsbD (i.val % 8) = false) (i j : GroupId) :
    (readImage image).matrix[i][j] = (image.getD (6 + 2 * i.val + j.val / 8) 0#8).getLsbD (j.val % 8) := by
  obtain ⟨bank, bank_eq⟩ : ∃ bank : Vector GroupSet 16,
      bank = Vector.ofFn fun k : Fin 16 => bitsFrom ((fieldBytes image 6 32).drop (2 * k.val)) 16 0 := ⟨_, rfl⟩
  have bits : ∀ i j : GroupId, bank[i][j] = (image.getD (6 + 2 * i.val + j.val / 8) 0#8).getLsbD (j.val % 8) := by
    intro i j
    have row : bank[i] = bitsFrom (fieldBytes image 6 32) 16 (2 * i.val) := by
      rw [bank_eq, Fin.getElem_fin, Vector.getElem_ofFn, bitsFrom_drop, Nat.add_zero]
    rw [row, Fin.getElem_fin, bitsFrom_fieldBytes j.isLt (by omega)]
  have bank_sound : matrixSound bank = true :=
    matrixSound_iff.mpr fun i => by
      refine ⟨(bits i i).trans (sound i i).2, fun j => ?_⟩
      rw [bits, bits]
      exact (sound i j).1
  have read : (readImage image).matrix = bank := by
    refine fieldAt_of_read (rest := []) ?_
    change (rdBank (rdBits 16) 16 (fieldBytes image 6 32)).bind
      (fun m => if matrixSound m.1 then some (m.1, m.2) else none) = _
    rw [read_of_takes (takes_rdBank (takes_bits 16) 16) (by omega), Option.bind_some, ← bank_eq, if_pos bank_sound]
  rw [read, bits]

omit room in
theorem intergreens_read (i j : GroupId) :
    (readImage image).intergreens[i][j] = image.getD (38 + 16 * i.val + j.val) 0#8 := by
  have row : (readImage image).intergreens[i] =
      Vector.ofFn fun j : Fin 16 => image.getD (38 + 16 * i.val + j.val) 0#8 := by
    rw [readImage, Fin.getElem_fin, Vector.getElem_ofFn]
  rw [row, Fin.getElem_fin, Vector.getElem_ofFn]

/-- A group's configuration at its place (R14). -/
theorem group_read {g : GroupId} {t : GroupType} {k : Nat} {limits : Timing → Nat × Nat} (place : k = 294 + 8 * g.val)
    (code : byteOf image k = codeOf groupTypes t) (limits_eq : limits = timingLimits t) :
    (readImage image).groups[g].type = t ∧
    ((limits .minGreen).1 ≤ wordOf image (k + 1) → wordOf image (k + 1) ≤ (limits .minGreen).2 →
      (readImage image).groups[g].minGreen = wordOf image (k + 1)) ∧
    ((limits .redAmber).1 ≤ byteOf image (k + 3) → byteOf image (k + 3) ≤ (limits .redAmber).2 →
      (readImage image).groups[g].redAmber = byteOf image (k + 3)) ∧
    ((limits .amber).1 ≤ byteOf image (k + 4) → byteOf image (k + 4) ≤ (limits .amber).2 →
      (readImage image).groups[g].amber = byteOf image (k + 4)) ∧
    ((limits .clearance).1 ≤ wordOf image (k + 5) → wordOf image (k + 5) ≤ (limits .clearance).2 →
      (readImage image).groups[g].clearance = wordOf image (k + 5)) ∧
    ((limits .minRed).1 ≤ byteOf image (k + 7) → byteOf image (k + 7) ≤ (limits .minRed).2 →
      (readImage image).groups[g].minRed = byteOf image (k + 7)) := by
  have record : (readImage image).groups[g] = groupConfigAt k image := by
    rw [readImage, Fin.getElem_fin, Vector.getElem_ofFn, place]
  have type : enumAt k groupTypes .unused image = t := enumAt_eq (by omega) code (by cases t <;> decide)
  rw [record, groupConfigAt, type, limits_eq]
  exact ⟨rfl, wordAt_eq (by omega), byteAt_eq (by omega), byteAt_eq (by omega), wordAt_eq (by omega), byteAt_eq (by omega)⟩

/-- An aspect's configuration at its place (R111). -/
theorem lamp_read {c : CoreId} {t : LampType} {k least : Nat} (place : k = 422 + 9 * c.val)
    (code : byteOf image (k + 1) = codeOf lampTypes t) (least_eq : least = (if t = .filament then 16 else 320)) :
    (readImage image).lamps[c].type = t ∧
    (byteOf image k ≤ 4 → (readImage image).lamps[c].fitted = byteOf image k) ∧
    (least ≤ wordOf image (k + 2) → wordOf image (k + 2) ≤ 65520 →
      (readImage image).lamps[c].bright = wordOf image (k + 2)) ∧
    (least ≤ wordOf image (k + 4) → wordOf image (k + 4) ≤ 65520 →
      (readImage image).lamps[c].dim = wordOf image (k + 4)) ∧
    (byteOf image (k + 6) ≤ 200 → (readImage image).lamps[c].leak = byteOf image (k + 6)) ∧
    (1 ≤ byteOf image (k + 7) → byteOf image (k + 7) ≤ 8 →
      (readImage image).lamps[c].tolerance = byteOf image (k + 7)) ∧
    (byteOf image (k + 8) ≤ 1 → (readImage image).lamps[c].frozen = decide (byteOf image (k + 8) = 1)) := by
  have record : (readImage image).lamps[c] = lampConfigAt k image := by
    rw [readImage, Fin.getElem_fin, Vector.getElem_ofFn, place]
  have type : enumAt (k + 1) lampTypes .filament image = t := enumAt_eq (by omega) code (by cases t <;> decide)
  have floor : referenceFloor t = least := by
    rw [least_eq]
    cases t <;> rfl
  rw [record, lampConfigAt, type, floor]
  exact ⟨rfl, byteAt_eq (by omega) (Nat.zero_le _), wordAt_eq (by omega), wordAt_eq (by omega),
    byteAt_eq (by omega) (Nat.zero_le _), byteAt_eq (by omega), flagAt_eq (by omega)⟩

end

end Sys2Proof.Machine
end

section
/-! The plans, the entries, the qualifiers and the single fields of an image (R172 to R174), and the defaults of a failed
check. -/

namespace Sys2Proof.Machine

theorem flagAt_of_code {image : List Byte} {place : Nat} (room : place + 1 ≤ image.length) {x : Bool}
    (code : (if x then 1 else 0) = byteOf image place) : flagAt place image = x := by
  cases x with
  | true =>
    have one : byteOf image place = 1 := code.symm
    exact (flagAt_eq room (by omega)).trans (decide_eq_true one)
  | false =>
    have zero : byteOf image place = 0 := code.symm
    exact (flagAt_eq room (by omega)).trans (decide_eq_false (by omega))

/-- A bit of a bit map that begins at a byte of an image. -/
def bitOf (image : List Byte) (k n : Nat) : Bool := (image.getD (k + n / 8) 0#8).getLsbD (n % 8)

section
variable {image : List Byte} (room : 2103 ≤ image.length)
include room

theorem stage_read {st : Stage} {j : Nat} (inside : j + 10 ≤ 2103)
    (set : ∀ g : GroupId, st.set[g] = bitOf image j g.val) (endPoint : st.endPoint = wordOf image (j + 2))
    (least : st.stageMin = wordOf image (j + 4)) (most : st.stageMax = wordOf image (j + 6))
    (demand : (if st.demandDependent then 1 else 0) = byteOf image (j + 8))
    (elastic : (if st.elastic then 1 else 0) = byteOf image (j + 9)) : stageAt j image = st := by
  obtain ⟨_, _, _, _, _, _⟩ := st
  rw [stageAt, Stage.mk.injEq, wordAt_any (by omega), wordAt_any (by omega), wordAt_any (by omega),
    flagAt_of_code (by omega) demand, flagAt_of_code (by omega) elastic]
  refine ⟨Vector.ext fun i within => ?_, endPoint.symm, least.symm, most.symm, rfl, rfl⟩
  rw [bitsAt_getElem (by omega) within (by omega)]
  exact (set ⟨i, within⟩).symm

/-- A plan record that a part could hold is read as it stands (R61, R172). -/
theorem plan_read {p : PlanId} {r : Plan} {k : Nat} (place : k = 998 + 128 * p.val) (cycle : r.cycle = wordOf image k)
    (offset : r.offset = wordOf image (k + 2)) (sync : (if r.sync then 1 else 0) = byteOf image (k + 4))
    (dim : (if r.dim then 1 else 0) = byteOf image (k + 5)) (count : r.count = byteOf image (k + 6))
    (within : r.count ≤ 12) (validity : codeOf validities r.validity = byteOf image (k + 127))
    (valid : r.validity = .valid → planInRange r.cycle r.offset (r.stages.toList.take r.count) = true)
    (zero : ∀ n : Fin 12, r.count ≤ n.val → r.stages[n] = Stage.zero)
    (stages : ∀ (n : Fin 12) (j : Nat), n.val < r.count → j = k + 7 + 10 * n.val →
      (∀ g : GroupId, r.stages[n].set[g] = bitOf image j g.val) ∧ r.stages[n].endPoint = wordOf image (j + 2) ∧
      r.stages[n].stageMin = wordOf image (j + 4) ∧ r.stages[n].stageMax = wordOf image (j + 6) ∧
      (if r.stages[n].demandDependent then 1 else 0) = byteOf image (j + 8) ∧
      (if r.stages[n].elastic then 1 else 0) = byteOf image (j + 9)) : (readImage image).plans[p] = r := by
  have counted : byteAt (k + 6) 0 12 image = r.count := by
    rw [byteAt_eq (by omega) (Nat.zero_le _) (by omega), count]
  have bank : (planBank (byteAt (k + 6) 0 12 image) fun n => stageAt (k + 7 + 10 * n.val) image) = r.stages := by
    refine Vector.ext fun n inside => ?_
    rw [planBank_getElem, counted]
    by_cases held : n < r.count
    · obtain ⟨set, endPoint, least, most, demand, elastic⟩ := stages ⟨n, inside⟩ _ held rfl
      rw [if_pos held]
      have in_image : k + 7 + 10 * n + 10 ≤ 2103 := by omega
      exact stage_read room in_image set endPoint least most demand elastic
    · rw [if_neg held]
      exact (zero ⟨n, inside⟩ (Nat.le_of_not_lt held)).symm
  have record : planRecordAt k image = r := by
    rw [planRecordAt, wordAt_any (by omega), wordAt_any (by omega), flagAt_of_code (by omega) sync,
      flagAt_of_code (by omega) dim, bank, counted,
      enumAt_eq (by omega) validity.symm (by cases r.validity <;> decide), ← cycle, ← offset]
  have storable : r.storable = true := by
    rw [Plan.storable]
    cases judged : r.validity with
    | invalid => rfl
    | valid => rw [valid judged]; rfl
  rw [readImage, Fin.getElem_fin, Vector.getElem_ofFn, ← place, planAt, record]
  exact if_pos storable

/-- A substitution entry at its place (R79). -/
theorem subst_read {e : Fin 2} {k : Nat} (place : k = 2022 + 10 * e.val) :
    (1 ≤ byteOf image k → byteOf image k ≤ 8 → (readImage image).substs[e].plan.val + 1 = byteOf image k) ∧
    (1 ≤ byteOf image (k + 1) → byteOf image (k + 1) ≤ 12 →
      (readImage image).substs[e].stage = byteOf image (k + 1)) ∧
    (∀ g : GroupId, (readImage image).substs[e].set[g] = bitOf image (k + 2) g.val) ∧
    (wordOf image (k + 4) ≤ 600 → (readImage image).substs[e].stageMin = wordOf image (k + 4) ∧
      (wordOf image (k + 4) ≤ wordOf image (k + 6) → wordOf image (k + 6) ≤ 1200 →
        (readImage image).substs[e].stageMax = wordOf image (k + 6))) ∧
    (byteOf image (k + 8) ≤ 1 → (readImage image).substs[e].demandFlag = decide (byteOf image (k + 8) = 1)) ∧
    (byteOf image (k + 9) ≤ 1 → (readImage image).substs[e].enabled = decide (byteOf image (k + 9) = 1)) := by
  have record : (readImage image).substs[e] = substAt k image := by
    rw [readImage, Fin.getElem_fin, Vector.getElem_ofFn, place]
  rw [record]
  refine ⟨indexAt_eq (by omega), byteAt_eq (by omega), fun g => bitsAt_getElem (by omega) g.isLt (by omega), fun short => ?_,
    flagAt_eq (by omega), flagAt_eq (by omega)⟩
  have least : wordAt (k + 4) 0 600 image = wordOf image (k + 4) := wordAt_eq (by omega) (Nat.zero_le _) short
  refine ⟨least, fun low high => ?_⟩
  change wordAt (k + 6) (wordAt (k + 4) 0 600 image) 1200 image = _
  rw [least, wordAt_eq (by omega) low high]

/-- A qualifier's configuration at its place (R146). -/
theorem qualifier_read {q : QualId} {k : Nat} (place : k = 2042 + 11 * q.val) :
    (∀ x : QualifierSource, byteOf image k = codeOf qualifierSources x → (readImage image).qualifiers[q].source = x) ∧
    (1 ≤ byteOf image (k + 1) → byteOf image (k + 1) ≤ 64 →
      (readImage image).qualifiers[q].subject.val + 1 = byteOf image (k + 1)) ∧
    (readImage image).qualifiers[q].a.limit = intOf image (k + 2) ∧
    (∀ x : Condition, byteOf image (k + 4) = codeOf conditions x → (readImage image).qualifiers[q].a.condition = x) ∧
    (readImage image).qualifiers[q].b.limit = intOf image (k + 5) ∧
    (∀ x : Condition, byteOf image (k + 7) = codeOf conditions x → (readImage image).qualifiers[q].b.condition = x) ∧
    (∀ x : CombineRule, byteOf image (k + 8) = codeOf combineRules x → (readImage image).qualifiers[q].combine = x) ∧
    (1 ≤ byteOf image (k + 9) → (readImage image).qualifiers[q].count = byteOf image (k + 9)) ∧
    (∀ x : QualifierAction, byteOf image (k + 10) = codeOf qualifierActions x →
      (readImage image).qualifiers[q].action = x) := by
  have record : (readImage image).qualifiers[q] = qualifierConfigAt k image := by
    rw [readImage, Fin.getElem_fin, Vector.getElem_ofFn, place]
  rw [record]
  exact ⟨fun x code => enumAt_eq (by omega) code (by cases x <;> decide), indexAt_eq (by omega), signedAt_eq (by omega),
    fun x code => enumAt_eq (by omega) code (by cases x <;> decide), signedAt_eq (by omega),
    fun x code => enumAt_eq (by omega) code (by cases x <;> decide),
    fun x code => enumAt_eq (by omega) code (by cases x <;> decide),
    fun low => byteAt_eq (by omega) low (Nat.le_of_lt_succ (byteOf_lt _ _)),
    fun x code => enumAt_eq (by omega) code (by cases x <;> decide)⟩

end

/-! ## The judging of an image -/

theorem imageGood_iff (memory : List Byte) :
    imageGood memory = true ↔ memory.take 3 = [0#8, 0x37#8, 0x08#8] ∧ 2103 ≤ memory.length ∧
      (memory.drop 2101).take 2 = crcBytes (crc16 (memory.take 2101)) := by
  rw [imageGood, Bool.and_eq_true_iff, Bool.and_eq_true_iff, beq_iff_eq, decide_eq_true_iff, beq_iff_eq, and_assoc]
  rfl

theorem judgeImage_none_iff (memory : List Byte) :
    judgeImage memory = none ↔
      memory.take 3 ≠ [0#8, 0x37#8, 0x08#8] ∨ memory.length < 2103 ∨
      ∀ crc : BitVec 16, crc = (memory.take 2101).foldl crcByte 0xFFFF#16 →
        (memory.drop 2101).take 2 ≠ [BitVec.ofNat 8 (crc.toNat / 256), BitVec.ofNat 8 crc.toNat] := by
  have bad : judgeImage memory = none ↔ ¬ imageGood memory = true := by
    rw [judgeImage]
    cases imageGood memory <;> simp
  rw [bad, imageGood_iff, not_and_or, not_and_or, Nat.not_le, forall_eq]
  rfl

theorem judgeImage_some {memory : List Byte} {m : Image} (judged : judgeImage memory = some m) :
    m = readImage memory ∧ 2103 ≤ memory.length := by
  obtain ⟨good, read⟩ := Option.ite_none_right_eq_some.mp judged
  exact ⟨(Option.some.inj read).symm, ((imageGood_iff memory).mp good).2.1⟩

/-! ## The defaults -/

/-- The values a failed check stands for (R174). -/
theorem default_fields {m : Image} (m_eq : m = Image.default) :
    m.scanMode = .fourRow ∧ m.filter = 3 ∧ m.threshold = 40 ∧
    (∀ i j : GroupId, (m.matrix[i][j] = true ↔ i ≠ j) ∧ (m.intergreens[i][j]).toNat = 255) ∧
    (∀ g : GroupId, m.groups[g] =
      { type := .unused, minGreen := 0, redAmber := 0, amber := 0, clearance := 0, minRed := 0 }) ∧
    (∀ c : CoreId, m.lamps[c] =
      { fitted := 0, type := .filament, bright := 1600, dim := 960, leak := 0, tolerance := 4, frozen := false } ∧
      m.testSet[c] = false) ∧
    (∀ p : PlanId, m.plans[p].validity = .invalid ∧ m.plans[p].cycle = 0 ∧ m.plans[p].offset = 0 ∧
      m.plans[p].sync = false ∧ m.plans[p].dim = false ∧ m.plans[p].count = 0 ∧
      ∀ k : Fin 12, m.plans[p].stages[k] = Stage.zero) ∧
    (∀ e : EntryId, m.substs[e] =
      { plan := 0, stage := e.val + 1, set := noGroups, stageMin := 0, stageMax := 0, demandFlag := false,
        enabled := false }) ∧
    (∀ q : QualId, m.qualifiers[q] =
      { source := .cableLeakage, subject := coreOf 0 .R, a := { limit := 0, condition := .above },
        b := { limit := 0, condition := .above }, combine := .aOrB, count := 1, action := .report }) ∧
    m.cableEnabled = false ∧ m.cyclicRunning = false ∧ m.interval = 5 ∧ m.startFlash = 50 ∧ m.allRed = 60 := by
  subst m_eq
  refine ⟨rfl, rfl, rfl, fun i j => ⟨?_, ?_⟩, fun g => ?_, fun c => ⟨?_, ?_⟩, fun p => ?_, fun e => ?_, fun q => ?_, rfl, rfl,
    rfl, rfl, rfl⟩
  · simp [Image.default]
  · simp [Image.default]
  · simp [Image.default]
  · simp [Image.default]
  · simp [Image.default, noCores]
  · simp [Image.default, Stage.zero]
  · simp [Image.default]
  · have first : (0 : CoreId) = coreOf 0 .R := by decide
    simp [Image.default, first]

end Sys2Proof.Machine
end

section
/-! The Store Controller as a whole (R174 to R176). -/

namespace Sys2Proof.Machine

/-- Settles O57: reset, load and save event by event, the image field by field, and the defaults. -/
theorem storeMoves : Obligations.StoreMoves := by
  refine ⟨fun s memory => ⟨reset_moves s, fun loading i o => load_moves loading i o, fun ready => loadEnd_elsewhere ready memory, saveStore_busy,
      saveStore_begins, fun saving i good held => save_ends saving i good held, fun idle => saveEnd_elsewhere idle memory, save_writes,
      fun ms r _ => ⟨pass_idle, pass_loading, pass_saving⟩⟩,
    fun m => ⟨writes_eq m, fun memory => ⟨written_image m memory, fun k => cutOff_bad m memory⟩⟩, planBytes_eq,
    fun memory => ⟨judgeImage_none_iff memory, fun m b w bit judged b_eq w_eq bit_eq => ?_⟩, fun m => default_fields⟩
  obtain ⟨rfl, room⟩ := judgeImage_some judged
  obtain rfl : b = byteOf memory := b_eq
  obtain rfl : w = wordOf memory := w_eq
  obtain rfl : bit = bitOf memory := bit_eq
  exact ⟨fun x code => enumAt_eq (by omega) code (by cases x <;> decide), byteAt_eq (by omega), byteAt_eq (by omega),
    matrix_read room, intergreens_read, fun g t k limits => group_read room, fun c t k least => lamp_read room,
    fun p r k => plan_read room, fun e k => subst_read room, fun q k => qualifier_read room, flagAt_eq (by omega),
    flagAt_eq (by omega), fun c => bitsAt_getElem (by omega) c.isLt (by omega), byteAt_eq (by omega),
    wordAt_eq (by omega) (Nat.zero_le _), wordAt_eq (by omega)⟩

end Sys2Proof.Machine
end
